-- ==== Sys2Proof/Word.lean ====
section
/-!
DEFINITION. The word types of the tile: a byte of a frame or of a cell, a two-byte field of a frame, and a set of
pin columns of one tile row.
-/

namespace Sys2Proof

/-- One byte: a cell of a page image (R1), a character of a frame (R16), a byte of the settings memory (R184). -/
abbrev Byte := BitVec 8

/-- A two-byte field of a frame (R17): a serial, a sequence number, a total, a detail. -/
abbrev Half := BitVec 16

/-- A set of pin columns of one tile row (R64): bit `p` stands for pin column `p`, 0 to 19.  The sense inputs PS0 to
PS19 and the column drives MC0 to MC19 carry such a set (R7). -/
abbrev PinSet := BitVec 20

end Sys2Proof
end

