-- ==== Sys2Proof/Syntax.lean ====
section
/-!
DEFINITION. The commands of the tile: one constructor of `Instr` for each row of spec/opcode_table.json, with what the
outside world brings to the step as its operands (the fields of a frame, the reading of the straps, of the sense inputs
or of the touch strips, the bytes of the settings memory).
-/

namespace Sys2Proof

/-- The body of a frame, field by field as it is sent (R17).  The fields have the widths they have on the line, so a
body may fail the checks of R17 (`Machine.bodyOk`). -/
inductive Body where
  /-- kind 1: serial, mode (0 FULL, 1 PATCH). -/
  | page (serial : Half) (mode : Byte)
  /-- kind 2: serial, sequence number, line, first cell, cell bytes. -/
  | content (serial seq : Half) (line first : Byte) (cells : List Byte)
  /-- kind 3: serial, total. -/
  | turn (serial total : Half)
  /-- kind 4: serial, outcome, detail. -/
  | settled (serial : Half) (outcome : Byte) (detail : Half)
  /-- kind 5: demand in units of 50 cu, rectangle, page state, T, last outcome. -/
  | draw (demand firstLine lineCount firstCell cellCount pageState : Byte) (serial : Half) (outcome : Byte)
  /-- kind 6: target station, tag, query kind, argument. -/
  | query (target tag kind : Byte) (arg : List Byte)
  /-- kind 7: tag, outcome, echoed query kind, result code, data. -/
  | reply (tag outcome kind code : Byte) (data : List Byte)
  /-- kind 8: target, scope (0 PAGE, 1 LINK). -/
  | reset (target scope : Byte)
  deriving DecidableEq, Repr

/-- A frame as the receiver heard it: whether the tile itself drove the line during it (R21), and the line's readings
in the middle of each bit time (R15; `true` reads high, `false` low), from the bit time at which the line left the
released state to the last one before it read released again, which ends the frame. -/
structure Heard where
  own : Bool
  line : List Bool
  deriving DecidableEq, Repr

/-- The commands: the rows of spec/opcode_table.json, in its order.  `sender` is the sender field of a frame; the
query rows carry the frame's target, tag and argument bytes (R17). -/
inductive Instr where
  /-- POWER_ON (R182), with the reading of the station straps ST4 to ST0 (R183). -/
  | powerOn (straps : BitVec 5)
  /-- RESET_PIN_ASSERTED (R182). -/
  | resetPinAsserted
  /-- RESET_PIN_RELEASED (R182), with the reading of the station straps (R183). -/
  | resetPinReleased (straps : BitVec 5)
  /-- END_OF_CONFIG (R186), with the bytes of the settings memory (R184; bytes past the list read as 0xFF) and the
  first reading of the touch strips TS0 to TS5 (R141; a set bit is present). -/
  | endOfConfig (memory : List Byte) (strips : BitVec 6)
  /-- SCAN_COMPLETE (R187), with the pin positions sensed in tile rows 0 to 23. -/
  | scanComplete (sensed : Vector PinSet 24)
  /-- JOIN_LISTEN_TIMER_EXPIRY (R189). -/
  | joinListenTimerExpiry
  /-- DISCARDED_FRAME (R20), with the frame as heard. -/
  | discardedFrame (heard : Heard)
  /-- PAGE (R42). -/
  | page (sender : Byte) (serial : Half) (mode : Byte)
  /-- CONTENT (R45). -/
  | content (sender : Byte) (serial seq : Half) (line first : Byte) (cells : List Byte)
  /-- TURN (R48). -/
  | turn (sender : Byte) (serial total : Half)
  /-- SETTLED (R122). -/
  | settled (sender : Byte) (serial : Half) (outcome : Byte) (detail : Half)
  /-- DRAW (R121). -/
  | draw (sender demand firstLine lineCount firstCell cellCount pageState : Byte) (serial : Half) (outcome : Byte)
  /-- REPLY (R23). -/
  | reply (sender tag outcome kind code : Byte) (data : List Byte)
  /-- STATUS_SUMMARY (R171): a query of kind 1. -/
  | statusSummary (sender target tag : Byte) (arg : List Byte)
  /-- STATUS_COUNTERS (R172): a query of kind 1. -/
  | statusCounters (sender target tag : Byte) (arg : List Byte)
  /-- DIGEST (R173): a query of kind 2. -/
  | digest (sender target tag : Byte) (arg : List Byte)
  /-- FAULTS (R174): a query of kind 3. -/
  | faults (sender target tag : Byte) (arg : List Byte)
  /-- FLATTEN (R176): a query of kind 4. -/
  | flatten (sender target tag : Byte) (arg : List Byte)
  /-- CLEAR_FAULTS (R177): a query of kind 5. -/
  | clearFaults (sender target tag : Byte) (arg : List Byte)
  /-- IDENTIFY (R175): a query of kind 6. -/
  | identify (sender target tag : Byte) (arg : List Byte)
  /-- CLEAR_COUNTERS (R178): a query of kind 7. -/
  | clearCounters (sender target tag : Byte) (arg : List Byte)
  /-- UNKNOWN_QUERY (R168): a query of a kind 0 or 8 to 255. -/
  | unknownQuery (sender target tag kind : Byte) (arg : List Byte)
  /-- RESET_PAGE (R191): a RESET frame of scope 0. -/
  | resetPage (sender target : Byte)
  /-- RESET_LINK (R192): a RESET frame of scope 1. -/
  | resetLink (sender target : Byte)
  /-- QUIET_GAP (R24). -/
  | quietGap
  /-- SLOT_BEGINS (R25). -/
  | slotBegins
  /-- DEFERRAL (R25). -/
  | deferral
  /-- COLLISION (R27). -/
  | collision
  /-- JAM_END (R27). -/
  | jamEnd
  /-- ATTEMPT_COMPLETES (R29). -/
  | attemptCompletes
  /-- LINK_UP (R33). -/
  | linkUp
  /-- LINK_DOWN (R33). -/
  | linkDown
  /-- STEP_TIMER_EXPIRY (R93), with the sense inputs' reading of the row in SENSE (used only when SENSE holds one). -/
  | stepTimerExpiry (sensed : PinSet)
  /-- RAIL_PERIOD (R110). -/
  | railPeriod
  /-- DRAW_REFRESH_TIMER_EXPIRY (R115). -/
  | drawRefreshTimerExpiry
  /-- SETTLE_TIMER_EXPIRY (R132). -/
  | settleTimerExpiry
  /-- ENTRY_EXPIRY (R123) of the view entry of one station. -/
  | entryExpiry (station : Byte)
  /-- PRESENCE_BEGINS (R143) on one touch strip. -/
  | presenceBegins (strip : Fin 6)
  /-- PRESENCE_ENDS (R143) on one touch strip. -/
  | presenceEnds (strip : Fin 6)
  /-- ARRIVAL_FILTER_EXPIRY (R143) of one line. -/
  | arrivalFilterExpiry (strip : Fin 6)
  /-- DEPARTURE_FILTER_EXPIRY (R143) of one line. -/
  | departureFilterExpiry (strip : Fin 6)
  /-- PRESENCE_TIMER_EXPIRY (R146) of one line. -/
  | presenceTimerExpiry (strip : Fin 6)
  /-- HOLD_LIMIT_EXPIRY (R150). -/
  | holdLimitExpiry
  /-- DRIFT_TIMER_EXPIRY (R152), with the sense inputs' readings of the four rows of the chosen line, in ascending
  tile row (used only when a line is chosen). -/
  | driftTimerExpiry (row0 row1 row2 row3 : PinSet)
  /-- QUERY_DISREGARDED (R167): a good QUERY frame that is not taken. -/
  | queryDisregarded (sender target tag kind : Byte) (arg : List Byte)
  /-- RESET_DISREGARDED (R190): a good RESET frame addressed elsewhere. -/
  | resetDisregarded (sender target scope : Byte)
  deriving DecidableEq, Repr

end Sys2Proof
end

