-- ==== Sys2Proof/Decode.lean ====
section
/-!
DEFINITION. Decoding by the opcode table's bits.  The tile takes events, not words: spec/opcode_table.json gives no row
any bits, so no word spells a command (assumption log 6).  The frames of the page link, which are made of bytes, are
decoded in Machine/Operands.lean.
-/

namespace Sys2Proof

/-- The command that a word spells by the table's bits: none, since the table gives no row bits. -/
def decodeTableWord (_nbits _w : Nat) : Option Instr := none

end Sys2Proof
end

