-- ==== Sys2Proof/Machine/State.lean ====
section
/-!
DEFINITION. The state of the tile, block by block as the spec's table of functional blocks lists them (00_scope.md),
the outcomes' reason types, one named update per block, and the state right after reset.
-/

namespace Sys2Proof.Machine

/-- The tile raises no fault: no rule of the spec stops the part, so this type has no constructor. -/
inductive Fault where
  deriving DecidableEq, Repr

/-- Why a command may have no meaning in the model. -/
inductive Refusal where
  /-- Raised by `exec`'s arms of commands that have no meaning yet (none in this package).  Safe: the model stops. -/
  | notModelled (mnemonic : String)
  deriving DecidableEq, Repr

/-- A timer: stopped, or running with the time in ms since it was started (or since its last expiry, for a timer that
expires again and again). -/
abbrev Timer := Option Nat

/-- A page image (R9): the cell bytes of the rectangle in reading order, none while no rectangle is in force. -/
abbrev Image := List Byte

/-! ### Start-up logic (11_start_up_and_stored_settings.md) -/

/-- The life state (R181). -/
inductive Life where
  | config | scan | listening | joined
  deriving DecidableEq, Repr

/-- The configuration source (R184). -/
inductive Source where
  | store | defaults
  deriving DecidableEq, Repr

/-- The settings in force (R186), after clamping and cutting. -/
structure Settings where
  station : Byte
  firstLine : Nat
  lineCount : Nat
  firstCell : Nat
  cellCount : Nat
  /-- P, the page tile count (R119). -/
  tileCount : Nat
  /-- L, the rail limit in cu per rail period (R119). -/
  railLimit : Nat
  /-- H, the hold limit in seconds (R148). -/
  holdLimit : Nat
  /-- The status cell's local line and local cell, or none (R11). -/
  statusCell : Option (Nat × Nat)
  source : Source
  deriving DecidableEq, Repr

/-- The start-up logic's state (R182). -/
structure StartUp where
  life : Life
  /-- The station straps as read at the start of CONFIG (R183), ST0 the least significant. -/
  straps : BitVec 5
  /-- The settings in force; none until the end of CONFIG. -/
  settings : Option Settings
  /-- The configuration-adjusted flag (R186). -/
  adjusted : Bool
  joinTimer : Timer
  deriving DecidableEq, Repr

/-! ### Link controller (02_the_page_link.md) -/

/-- The twelve link and page counters, in the order of R35. -/
structure Counters where
  crcErrors : Nat
  malformed : Nat
  unknownKind : Nat
  collisions : Nat
  abandoned : Nat
  repliesDropped : Nat
  clashes : Nat
  stale : Nat
  superseded : Nat
  orphans : Nat
  gapDrops : Nat
  duplicates : Nat
  deriving DecidableEq, Repr

/-- The body of a REPLY as the query responder builds it (R169). -/
structure Reply where
  tag : Byte
  outcome : Byte
  kind : Byte
  code : Byte
  data : List Byte
  deriving DecidableEq, Repr

/-- The two announcing frame kinds of the transmit queue (R30). -/
inductive Announce where
  | draw | settled
  deriving DecidableEq, Repr

/-- A frame of the transmit queue (R30): a REPLY with the body built when it was queued, or an announcement, whose
body is built at each attempt (R32), with its renewal mark. -/
inductive QFrame where
  | reply (r : Reply)
  | announce (k : Announce) (renew : Bool)
  deriving DecidableEq, Repr

/-- Where an attempt on the line stands (R27): its bits are being driven, or it has collided and the tile jams. -/
inductive LinePhase where
  | sending | jamming
  deriving DecidableEq, Repr

/-- The attempt on the line (R27, R30). -/
structure OnLine where
  phase : LinePhase
  /-- The head of the queue is the frame of this attempt (false once the collision has removed it). -/
  holdsHead : Bool
  /-- The frame was queued before a LINK reset and only runs to its end (R37). -/
  preReset : Bool
  /-- The station number in the frame's sender field (R14). -/
  sender : Byte
  /-- The body as built at the first bit time of the lead (R32). -/
  body : Body
  deriving DecidableEq, Repr

/-- The link controller's state (R26, R30, R33, R35, R36). -/
structure Link where
  queue : List QFrame
  onLine : Option OnLine
  /-- The attempt number, 1 to 10 (R26). -/
  attempt : Nat
  /-- The backoff window W, 8 to 256 slots (R26). -/
  window : Nat
  /-- The slot drawn in a backoff wait under way (R25), none outside one. -/
  wait : Option Nat
  /-- The line has stayed released for the quiet gap (R24). -/
  quiet : Bool
  /-- The line state is LINK_UP (R33). -/
  lineUp : Bool
  counters : Counters
  clash : Bool
  deriving DecidableEq, Repr

/-! ### Page assembler (03_page_assembly_and_turning.md) -/

/-- The staging state with S and e, which change together (R40): both are 0 while EMPTY. -/
inductive Staging where
  | empty
  | assembling (serial : Half) (expected : Nat)
  deriving DecidableEq, Repr

/-- The page state (R54). -/
inductive PageState where
  | idle | working | settled
  deriving DecidableEq, Repr

/-- The outcome of a page (R39, R120): the tile's own last outcome takes the first four values, a peer's and the
announcement record's also LACKING. -/
inductive PageOutcome where
  | none | done | doneFaults | held | lacking
  deriving DecidableEq, Repr

/-- The announcement record (R39, R55). -/
structure Record where
  serial : Half
  outcome : PageOutcome
  detail : Nat
  deriving DecidableEq, Repr

/-- The page assembler's state (R39). -/
structure Page where
  staging : Image
  stagingState : Staging
  target : Image
  /-- T, the serial of the page last turned, 0 for none. -/
  turned : Half
  state : PageState
  outcome : PageOutcome
  detail : Nat
  heldMark : Bool
  record : Record
  deriving DecidableEq, Repr

/-! ### Plan keeper (04_the_strike_plan.md) -/

/-- Pins of one row to be moved up and pins to be moved down: the two sets of a diff, a job or a strike (R64, R68). -/
structure Moves where
  raise : PinSet
  lower : PinSet
  deriving DecidableEq, Repr

/-- The strength of a strike (R69). -/
inductive Level where
  | normal | firm | hard
  deriving DecidableEq, Repr

/-- A row job (R64); its tile row is its place in the plan. -/
structure Job where
  moves : Moves
  attempt : Nat
  level : Level
  deriving DecidableEq, Repr

/-- The fault map's state of one pin (R81). -/
inductive PinFault where
  | ok | weak | stuckUp | stuckDown
  deriving DecidableEq, Repr

/-- The plan keeper's state: the strike plan, one place for each tile row (R65), and the fault map, one state for each
pin of the rectangle in reading order (R81). -/
structure Plan where
  jobs : Vector (Option Job) 24
  faults : List PinFault
  deriving DecidableEq, Repr

/-! ### Row pipeline (05_the_row_pipeline.md) -/

/-- A row in flight with its snapshot (R86). -/
structure Slot where
  row : Nat
  moves : Moves
  attempt : Nat
  level : Level
  cost : Nat
  fired : Bool
  deriving DecidableEq, Repr

/-- The engine state (R87). -/
inductive Engine where
  | idle | running | fenced
  deriving DecidableEq, Repr

/-- What the matrix drives carry during a strike (R7): row drive `row`, the columns of `raise` in raise polarity and of
`lower` in lower polarity, every other column released. -/
structure Pulse where
  row : Nat
  moves : Moves
  level : Level
  deriving DecidableEq, Repr

/-- The row pipeline's state (R86, R87) and the matrix drives of a strike (R7; none: all released).  A sense selects its
row drive only within the event that senses, so `matrix` never shows it (DESIGN CHOICE, log 23). -/
structure Pipeline where
  load : Option Slot
  strike : Option Slot
  settle : Option Slot
  sense : Option Slot
  engine : Engine
  stepTimer : Timer
  matrix : Option Pulse
  deriving DecidableEq, Repr

/-! ### Charge bank (06_the_charge_bank.md) -/

/-- The charge bank's state (R108) and the amount the recharge control transfers in the present period (R110). -/
structure Bank where
  charge : Nat
  railTimer : Timer
  demand : Nat
  lastAnnounced : Nat
  transfer : Nat
  deriving DecidableEq, Repr

/-! ### Rail share (07_rail_sharing_among_tiles.md) -/

/-- An entry of the peer view (R120); `remaining` is the time in ms to its expiry deadline. -/
structure PeerEntry where
  station : Byte
  demand : Nat
  serial : Half
  outcome : PageOutcome
  remaining : Nat
  deriving DecidableEq, Repr

/-- The hold mark and the settle timer of a pending rise (R131, R133): held with its timer stopped, or settling with
the timer's elapsed ms. -/
inductive RisePhase where
  | held
  | settling (elapsed : Nat)
  deriving DecidableEq, Repr

/-- A pending rise (R131). -/
structure Rise where
  target : Nat
  awaited : Nat
  phase : RisePhase
  deriving DecidableEq, Repr

/-- The rail share's state (R120, R131, R115).  The view stands in the order of the entries' deadlines, earliest
first (R124: no two entries share a deadline). -/
structure RailShare where
  view : List PeerEntry
  computed : Nat
  applied : Nat
  rise : Option Rise
  refreshTimer : Timer
  deriving DecidableEq, Repr

/-! ### Touch guard (08_touch_guard_and_drift_repair.md) -/

/-- The guard state of a line (R142). -/
inductive Guard where
  | clear | arriving | touched | leaving
  deriving DecidableEq, Repr

/-- The touch guard's state of one local line (R142). -/
structure LineGuard where
  guard : Guard
  arrival : Timer
  departure : Timer
  presence : Timer
  failed : Bool
  deriving DecidableEq, Repr

/-- The phase of the hold timer (R148). -/
inductive HoldPhase where
  | inactive | running | paused | expired
  deriving DecidableEq, Repr

/-- The touch guard's state (R142, R148, R151): one entry of `lines` per local line of the rectangle in force. -/
structure Touch where
  lines : List LineGuard
  holdPhase : HoldPhase
  /-- The accumulated hold time in ms. -/
  holdTime : Nat
  driftTimer : Timer
  /-- The rotation pointer of the drift scan. -/
  rotation : Nat
  deriving DecidableEq, Repr

/-! ### Status cell logic (09_page_readiness_and_the_status_cell.md) -/

/-- The current pattern (R158): a base pattern and, for WORKING and READY, whether the ATTENTION overlay is present. -/
inductive Pattern where
  | blank
  | working (attention : Bool)
  | ready (attention : Bool)
  deriving DecidableEq, Repr

end Sys2Proof.Machine

namespace Sys2Proof.Machine

/-- The state of the tile. -/
structure State where
  /-- The commands that wait, first in first out (the model's own field). -/
  pending : List Instr
  /-- RSTN is held low (R182). -/
  resetHeld : Bool
  start : StartUp
  link : Link
  page : Page
  plan : Plan
  pipe : Pipeline
  /-- SHOWN, the pins as last sensed (R9). -/
  shown : Image
  bank : Bank
  rail : RailShare
  touch : Touch
  /-- The current status pattern (R158). -/
  pattern : Pattern
  /-- How many random slots have been drawn (the model's own field: it picks the next free value, log 1). -/
  draws : Nat
  deriving DecidableEq, Repr

/-- `s` with another command queue. -/
def State.withPending (s : State) (q : List Instr) : State := { s with pending := q }
/-- `s` with the reset pin held or not. -/
def State.withHeld (s : State) (b : Bool) : State := { s with resetHeld := b }
/-- `s` with another start-up block. -/
def State.withStart (s : State) (x : StartUp) : State := { s with start := x }
/-- `s` with another link controller block. -/
def State.withLink (s : State) (x : Link) : State := { s with link := x }
/-- `s` with another page assembler block. -/
def State.withPage (s : State) (x : Page) : State := { s with page := x }
/-- `s` with another plan keeper block. -/
def State.withPlan (s : State) (x : Plan) : State := { s with plan := x }
/-- `s` with another row pipeline block. -/
def State.withPipe (s : State) (x : Pipeline) : State := { s with pipe := x }
/-- `s` with another SHOWN image. -/
def State.withShown (s : State) (x : Image) : State := { s with shown := x }
/-- `s` with another charge bank block. -/
def State.withBank (s : State) (x : Bank) : State := { s with bank := x }
/-- `s` with another rail share block. -/
def State.withRail (s : State) (x : RailShare) : State := { s with rail := x }
/-- `s` with another touch guard block. -/
def State.withTouch (s : State) (x : Touch) : State := { s with touch := x }
/-- `s` with another status pattern. -/
def State.withPattern (s : State) (x : Pattern) : State := { s with pattern := x }
/-- `s` with another count of random draws. -/
def State.withDraws (s : State) (n : Nat) : State := { s with draws := n }

/-- The twelve counters at 0 (R35). -/
def Counters.zero : Counters := ⟨0, 0, 0, 0, 0, 0, 0, 0, 0, 0, 0, 0⟩

/-- The tile right after reset (R182 and each block's chapter): in CONFIG with no settings in force, every block at its
power-on value.  The straps read 31, as open straps do (R183; assumption log 2). -/
def State.reset : State where
  pending := []
  resetHeld := false
  start := { life := .config, straps := 31, settings := none, adjusted := false, joinTimer := none }
  link := { queue := [], onLine := none, attempt := 1, window := 8, wait := none, quiet := false, lineUp := false,
            counters := Counters.zero, clash := false }
  page := { staging := [], stagingState := .empty, target := [], turned := 0, state := .idle, outcome := .none,
            detail := 0, heldMark := false, record := ⟨0, .lacking, 0⟩ }
  plan := { jobs := Vector.replicate 24 none, faults := [] }
  pipe := { load := none, strike := none, settle := none, sense := none, engine := .idle, stepTimer := none,
            matrix := none }
  shown := []
  bank := { charge := 0, railTimer := none, demand := 600, lastAnnounced := 0, transfer := 0 }
  rail := { view := [], computed := 0, applied := 0, rise := none, refreshTimer := none }
  touch := { lines := [], holdPhase := .inactive, holdTime := 0, driftTimer := none, rotation := 0 }
  pattern := .blank
  draws := 0

end Sys2Proof.Machine
end

