-- ==== Sys2Proof/Machine/Flags.lean ====
section
/-!
DEFINITION. The codes, masks, counters and flags that the tile reports (R35, R158, R171).
-/

namespace Sys2Proof.Machine

/-! ### Timers -/

/-- R188: the join-listen timer's period, in ms. -/
def joinPeriod : Nat := 1500
/-- R87: the step timer's period. -/
def stepPeriod : Nat := 6
/-- R109: the rail period. -/
def railPeriod : Nat := 10
/-- R115: the DRAW refresh timer's period. -/
def refreshPeriod : Nat := 500
/-- R131: the settle timer's period. -/
def settlePeriod : Nat := 20
/-- R142: the arrival filter. -/
def arrivalPeriod : Nat := 30
/-- R142: the departure filter. -/
def departurePeriod : Nat := 200
/-- R142: the presence timer's 600 s. -/
def presencePeriod : Nat := 600000
/-- R151: the drift timer's period. -/
def driftPeriod : Nat := 2000

/-- A running timer has reached its period, so that its expiry is due (log 4). -/
def Timer.due (period : Nat) (t : Timer) : Bool :=
  match t with
  | none => false
  | some n => decide (period ≤ n)

/-- A running timer after 1 ms, standing at its period once it is reached (log 4). -/
def Timer.tick (period : Nat) (t : Timer) : Timer := t.map (fun n => min (n + 1) period)

/-! ### Codes -/

/-- R171, byte 0. -/
def Life.code : Life → Byte
  | .config => 0 | .scan => 1 | .listening => 2 | .joined => 3

/-- R171, byte 2, and the page state field of a DRAW (R17). -/
def PageState.code : PageState → Byte
  | .idle => 0 | .working => 1 | .settled => 2

/-- R39, R17: the code of an outcome in DRAW and SETTLED frames. -/
def PageOutcome.code : PageOutcome → Byte
  | .none => 0 | .done => 1 | .doneFaults => 2 | .held => 3 | .lacking => 4

/-- R121: the outcome a DRAW's last outcome field stands for; NONE for any value above 4. -/
def outcomeOfCode (c : Byte) : PageOutcome :=
  if c = 1 then .done else if c = 2 then .doneFaults else if c = 3 then .held else if c = 4 then .lacking else .none

/-- R171, byte 12. -/
def Engine.code : Engine → Byte
  | .idle => 0 | .running => 1 | .fenced => 2

/-- R175, byte 14. -/
def Source.code : Source → Byte
  | .store => 0 | .defaults => 1

/-- R85: the code of a fault list entry's state. -/
def PinFault.code : PinFault → Byte
  | .ok => 0 | .weak => 1 | .stuckUp => 2 | .stuckDown => 3

/-- A pin given up as stuck (R81). -/
def PinFault.isStuck : PinFault → Bool
  | .stuckUp => true | .stuckDown => true | _ => false

/-- R158: the cell byte of a pattern. -/
def Pattern.byte : Pattern → Byte
  | .blank => 0x00
  | .working false => 0x24
  | .working true => 0xE4
  | .ready false => 0x3F
  | .ready true => 0xFF

/-- The number whose bit `l` is set for each `l` below `n` with `f l`: a mask of local lines (R58, R156). -/
def lineMask : Nat → (Nat → Bool) → Nat
  | 0, _ => 0
  | n + 1, f => lineMask n f + (if f n then 2 ^ n else 0)

/-- R142: a line is guarded while its guard state is not CLEAR. -/
def LineGuard.guarded (g : LineGuard) : Bool := g.guard != .clear

/-- R143: a strip's readings alternate, so it reads present in ARRIVING and TOUCHED and absent in CLEAR and LEAVING. -/
def LineGuard.present (g : LineGuard) : Bool := g.guard == .arriving || g.guard == .touched

/-- R89: a line is closed while it is guarded and its strip is not FAILED. -/
def LineGuard.closed (g : LineGuard) : Bool := g.guarded && !g.failed

/-- The counters by name (R35). -/
inductive Counter where
  | crcErrors | malformed | unknownKind | collisions | abandoned | repliesDropped
  | clashes | stale | superseded | orphans | gapDrops | duplicates
  deriving DecidableEq, Repr

/-- R35: a counter incremented; at 65535 it stays. -/
def bump (n : Nat) : Nat := if n < 65535 then n + 1 else n

/-- R35: the counters after one event of a counter. -/
def Counters.inc (c : Counters) : Counter → Counters
  | .crcErrors => { c with crcErrors := bump c.crcErrors }
  | .malformed => { c with malformed := bump c.malformed }
  | .unknownKind => { c with unknownKind := bump c.unknownKind }
  | .collisions => { c with collisions := bump c.collisions }
  | .abandoned => { c with abandoned := bump c.abandoned }
  | .repliesDropped => { c with repliesDropped := bump c.repliesDropped }
  | .clashes => { c with clashes := bump c.clashes }
  | .stale => { c with stale := bump c.stale }
  | .superseded => { c with superseded := bump c.superseded }
  | .orphans => { c with orphans := bump c.orphans }
  | .gapDrops => { c with gapDrops := bump c.gapDrops }
  | .duplicates => { c with duplicates := bump c.duplicates }

/-- The counters in the order of R35. -/
def Counters.list (c : Counters) : List Nat :=
  [c.crcErrors, c.malformed, c.unknownKind, c.collisions, c.abandoned, c.repliesDropped,
   c.clashes, c.stale, c.superseded, c.orphans, c.gapDrops, c.duplicates]

/-- R35: one event counted. -/
def count (k : Counter) (s : State) : State :=
  s.withLink { s.link with counters := s.link.counters.inc k }

/-- R171, byte 27: bit 0 configuration adjusted, bit 1 clash flag, bit 2 source DEFAULTS. -/
def flagsByte (adjusted clash defaults : Bool) : Byte :=
  BitVec.ofNat 8 (adjusted.toNat + 2 * clash.toNat + 4 * defaults.toNat)

end Sys2Proof.Machine
end

