-- ==== Sys2Proof/Machine/RailSharing.lean ====
section
/-!
DEFINITION. The rail limit, the computed allowance and its application (R119, R126 to R136).
-/

namespace Sys2Proof.Machine

/-- R120: the peer view holds at most 15 entries. -/
def viewLimit : Nat := 15

/-- R120: an entry's deadline lies 1500 ms after the last DRAW from its station. -/
def entryLife : Nat := 1500

/-- R126: the demand assumed for a missing peer, which is also the largest demand (R113). -/
def fullDemand : Nat := 600

/-- R119: the effective limit, L − ⌊L / 16⌋. -/
def effectiveLimit (l : Nat) : Nat := l - l / 16

/-- R119: the floor share, ⌊L_eff / (2P)⌋. -/
def floorShare (c : Settings) : Nat := effectiveLimit c.railLimit / (2 * c.tileCount)

/-- R126: the number of expected peers not in the view. -/
def missingPeers (tileCount live : Nat) : Nat := tileCount - 1 - live

/-- R127: the demand set: own demand, the announced demands of the view, and 600 for each missing peer. -/
def demandSet (own tileCount : Nat) (view : List PeerEntry) : List Nat :=
  own :: (view.map (·.demand) ++ List.replicate (missingPeers tileCount view.length) fullDemand)

/-- R127: the floor part of a demand. -/
def floorPart (f x : Nat) : Nat := min x f

/-- R127: M, the sum of the floor parts. -/
def floorSum (f : Nat) (demands : List Nat) : Nat := (demands.map (floorPart f)).sum

/-- R127: E, the sum of the excesses. -/
def excessSum (f : Nat) (demands : List Nat) : Nat := (demands.map (fun x => x - floorPart f x)).sum

/-- R128: the share the formula gives a member of a demand set. -/
def shareOf (lEff f : Nat) (demands : List Nat) (x : Nat) : Nat :=
  if demands.sum ≤ lEff then x
  else if lEff ≤ floorSum f demands then lEff * floorPart f x / floorSum f demands
  else floorPart f x + (lEff - floorSum f demands) * (x - floorPart f x) / excessSum f demands

/-- R128, R129: the computed allowance with some settings, from the demand set and the line state. -/
def computeAllowance (c : Settings) (own : Nat) (view : List PeerEntry) (lineUp : Bool) : Nat :=
  let a := shareOf (effectiveLimit c.railLimit) (floorShare c) (demandSet own c.tileCount view) own
  if lineUp then a else min a (floorShare c)

/-- R134: the hold of a held rise is released: the tile is JOINED, and the line is down or the last announced demand
has reached the awaited demand. -/
def holdReleased (s : State) (r : Rise) : Bool :=
  s.start.life == .joined && (!s.link.lineUp || decide (r.awaited ≤ s.bank.lastAnnounced))

/-- R134: a held rise judged afresh; released, its settle timer starts afresh. -/
def judgeRise (s : State) : State :=
  match s.rail.rise with
  | none => s
  | some r =>
    if r.phase = .held ∧ holdReleased s r = true then
      s.withRail { s.rail with rise := some { r with phase := .settling 0 } }
    else s

/-- R133: a rise set now is held. -/
def riseHeld (s : State) : Bool :=
  s.start.life == .listening || (decide (s.bank.lastAnnounced < s.bank.demand) && s.link.lineUp)

/-- R131, third case: the pending rise set for a target. -/
def newRise (s : State) (target : Nat) : Rise :=
  { target := target, awaited := s.bank.demand, phase := if riseHeld s then .held else .settling 0 }

/-- R131: the result of a computation compared with the applied allowance and the pending rise. -/
def applyAllowance (a : Nat) (s : State) : State :=
  let s1 := s.withRail { s.rail with computed := a }
  if a ≤ s.rail.applied then s1.withRail { s1.rail with applied := a, rise := none }
  else
    match s.rail.rise with
    | some r => if r.target = a then judgeRise s1 else s1.withRail { s1.rail with rise := some (newRise s a) }
    | none => s1.withRail { s1.rail with rise := some (newRise s a) }

/-- The life states in which the rail share computes (R130: not before the tile first enters LISTENING). -/
def onTheLink (s : State) : Bool := s.start.life == .listening || s.start.life == .joined

/-- R130: the allowance recomputed and applied. -/
def recomputeAllowance (s : State) : State :=
  match s.start.settings with
  | none => s
  | some c => if onTheLink s then applyAllowance (computeAllowance c s.bank.demand s.rail.view s.link.lineUp) s else s

end Sys2Proof.Machine
end

