-- ==== Sys2Proof/Config.lean ====
section
/-!
DEFINITION. The free value of the model: what the spec leaves to chance.
-/

namespace Sys2Proof

/-- The random draws of the link controller (R25: a slot number is drawn "uniformly at random").  The `n`-th draw of
the tile is this constant's value at `n`; it has no body, so no proof can see it (assumption log 1). -/
opaque Config.slotDraw : Nat → Nat

end Sys2Proof
end

