-- ==== Sys2Proof/Machine/TransmitQueue.lean ====
section
/-!
DEFINITION. The transmit queue and contention for the line (R24 to R31).
-/

namespace Sys2Proof.Machine

/-- R30: the transmit queue holds at most 6 frames. -/
def queueLimit : Nat := 6

/-- The frame is the announcement of a kind. -/
def QFrame.isAnnounce (k : Announce) : QFrame → Bool
  | .reply _ => false
  | .announce k' _ => k' == k

/-- The frame is a REPLY. -/
def QFrame.isReply : QFrame → Bool
  | .reply _ => true
  | .announce _ _ => false

/-- The frame's renewal mark is set (R30). -/
def QFrame.renewMark : QFrame → Bool
  | .reply _ => false
  | .announce _ renew => renew

/-- The frame with its renewal mark clear. -/
def QFrame.unmarked : QFrame → QFrame
  | .reply r => .reply r
  | .announce k _ => .announce k false

/-- The frame with its renewal mark set (an announcement only, R30). -/
def QFrame.marked : QFrame → QFrame
  | .reply r => .reply r
  | .announce k _ => .announce k true

/-- A function applied to the head of a queue. -/
def mapHead (f : QFrame → QFrame) : List QFrame → List QFrame
  | [] => []
  | h :: t => f h :: t

/-- The renewal mark of the head frame. -/
def headRenew (q : List QFrame) : Bool := (q.head?.map QFrame.renewMark).getD false

/-- R26: the backoff state of a frame that has become the head. -/
def Link.freshBackoff (l : Link) : Link := { l with attempt := 1, window := 8 }

/-- The head of the queue is the frame on the line (R30). -/
def Link.headOnLine (l : Link) : Bool :=
  match l.onLine with
  | none => false
  | some o => o.holdsHead

/-- The head of the queue is on the line and its attempt is still being sent: a frame of its kind queued now sets its
renewal mark (R30). -/
def Link.headSending (l : Link) : Bool :=
  match l.onLine with
  | none => false
  | some o => o.holdsHead && o.phase == .sending

/-- R31: the head frame is ready for contention. -/
def headReady (s : State) : Bool :=
  s.start.life == .joined && s.link.lineUp && s.link.onLine.isNone && !s.link.queue.isEmpty

/-- R24, R25: contention begins, with a slot drawn from 0 to W − 1, if the head frame is ready and the line has been
released for the quiet gap; a wait under way goes on. -/
def tryContend (s : State) : State :=
  if headReady s && s.link.quiet && s.link.wait.isNone then
    (s.withLink { s.link with wait := some (Config.slotDraw s.draws % s.link.window) }).withDraws (s.draws + 1)
  else s

/-- A frame joins the tail of the queue; in an empty queue it becomes the head with attempt 1 and W = 8 (R26), and
contends if it is ready (R24). -/
def joinTail (f : QFrame) (s : State) : State :=
  let l := if s.link.queue.isEmpty then s.link.freshBackoff else s.link
  tryContend (s.withLink { l with queue := l.queue ++ [f] })

/-- R30: a REPLY joins the tail, or finds the queue full and is dropped. -/
def enqueueReply (r : Reply) (s : State) : State :=
  if queueLimit ≤ s.link.queue.length then count .repliesDropped s else joinTail (.reply r) s

/-- The queue without its first REPLY. -/
def dropFirstReply : List QFrame → List QFrame
  | [] => []
  | .reply _ :: q => q
  | .announce k b :: q => .announce k b :: dropFirstReply q

/-- R30: the queue without its oldest REPLY that is not on the line. -/
def dropOldestReply (headOnLine : Bool) : List QFrame → List QFrame
  | [] => []
  | h :: t => if headOnLine then h :: dropFirstReply t else dropFirstReply (h :: t)

/-- R30: room made in a full queue.  Where the head itself is removed, its backoff wait is given up and the next frame
becomes the head (R26). -/
def makeRoom (s : State) : State :=
  let l := s.link
  let q := dropOldestReply l.headOnLine l.queue
  let headGone := !l.headOnLine && (l.queue.head?.map QFrame.isReply).getD false
  let l' := if headGone then { l.freshBackoff with wait := none } else l
  count .repliesDropped (s.withLink { l' with queue := q })

/-- R30: an announcement finds one of its kind queued.  On the line and still being sent, that frame's renewal mark is
set.  On the line and jamming, the new frame takes its place, so the queue no longer holds a frame from before a LINK
reset (R37).  Elsewhere in the queue, the new frame takes the queued one's place, position and backoff. -/
def renewQueued (k : Announce) (s : State) : State :=
  let headIsKind := (s.link.queue.head?.map (QFrame.isAnnounce k)).getD false
  if headIsKind && s.link.headSending then
    s.withLink { s.link with queue := mapHead QFrame.marked s.link.queue }
  else if headIsKind && s.link.headOnLine then
    s.withLink { s.link with onLine := s.link.onLine.map (fun o => { o with preReset := false }) }
  else s

/-- R30: a DRAW or SETTLED is queued. -/
def enqueueAnnounce (k : Announce) (s : State) : State :=
  if s.link.queue.any (QFrame.isAnnounce k) then renewQueued k s
  else if s.link.queue.length < queueLimit then joinTail (.announce k false) s
  else joinTail (.announce k false) (makeRoom s)

/-- The head frame leaves the queue; the next frame becomes the head with attempt 1 and W = 8 (R26). -/
def Link.popHead (l : Link) : Link := { l.freshBackoff with queue := l.queue.tail }

/-- The head frame stays at the head as a fresh frame: attempt 1, W = 8 and the renewal mark clear (R30, R37). -/
def Link.renewHead (l : Link) : Link := { l.freshBackoff with queue := mapHead QFrame.unmarked l.queue }

end Sys2Proof.Machine
end

