-- ==== Sys2Proof/Machine/ChargeBank.lean ====
section
/-!
DEFINITION. The charge bank: own demand and its announcement, and payment (R111, R113, R114, R116).
-/

namespace Sys2Proof.Machine

/-- R108: the most charge the bank holds, in cu. -/
def bankLimit : Nat := 4000

/-- R113: own demand: the smaller of 600 and the room left, rounded up to a multiple of 50. -/
def demandOf (charge : Nat) : Nat := (min fullDemand (bankLimit - charge) + 49) / 50 * 50

/-- R114: the comparison of own demand with the last announced demand; a DRAW is queued when they differ. -/
def announceDemand (s : State) : State :=
  if s.bank.demand = s.bank.lastAnnounced then s else enqueueAnnounce .draw s

/-- R113: own demand worked out afresh; a change queues a DRAW as R114 lays down and recomputes the allowance. -/
def updateDemand (s : State) : State :=
  let d := demandOf s.bank.charge
  if d = s.bank.demand then s
  else recomputeAllowance (announceDemand (s.withBank { s.bank with demand := d }))

/-- R111: a strike is paid for. -/
def pay (cost : Nat) (s : State) : State := updateDemand (s.withBank { s.bank with charge := s.bank.charge - cost })

/-- R116: a DRAW that carried `d` has completed: it becomes the last announced demand, the rail share judges a held
rise afresh (R134), and the comparison of R114 is made. -/
def drawCompleted (d : Nat) (s : State) : State :=
  announceDemand (judgeRise (s.withBank { s.bank with lastAnnounced := d }))

/-- R114, R134: the notice that a DRAW has been abandoned; the last announced demand stays (R116). -/
def drawAbandoned (s : State) : State := announceDemand (judgeRise s)

end Sys2Proof.Machine
end

