-- ==== Sys2Proof/Machine/Geometry.lean ====
section
/-!
DEFINITION. Tile geometry: sets of pins, the cell byte, tile rows and pin columns of a page image, page coordinates and
the clipping of content fragments (01_tile_geometry_and_page_coordinates.md).
-/

namespace Sys2Proof.Machine

/-- The set of the pin columns `p` below `n` with `f p`. -/
def pinSet : Nat → (Nat → Bool) → PinSet
  | 0, _ => 0#20
  | n + 1, f => pinSet n f ||| (if f n then 1#20 <<< n else 0#20)

/-- How many pins a set holds. -/
def pinCount (a : PinSet) : Nat := (List.range 20).countP (fun p => a.getLsbD p)

/-- "A ⊆ B" of two sets of pins. -/
def pinSubset (a b : PinSet) : Bool := a &&& ~~~b == 0#20

/-- No pin to move. -/
def Moves.isEmpty (m : Moves) : Bool := m.raise == 0#20 && m.lower == 0#20

/-- R68: a diff lies within a job or strike, compared side by side. -/
def Moves.within (a b : Moves) : Bool := pinSubset a.raise b.raise && pinSubset a.lower b.lower

/-- The struck set: the union of the raise set and the lower set. -/
def Moves.struck (m : Moves) : PinSet := m.raise ||| m.lower

/-- R1: the bit of the dot at a dot row (0 to 3) and a side (0 left, 1 right). -/
def dotBit (dotRow side : Nat) : Nat := if dotRow = 3 then 6 + side else dotRow + 3 * side

/-- A byte with one bit set or cleared. -/
def setBit (b : Byte) (k : Nat) (v : Bool) : Byte := if v then b ||| (1#8 <<< k) else b &&& ~~~(1#8 <<< k)

/-- The cell byte of an image with `cc` cells a line, at a local line and local cell (R9, reading order of R10). -/
def cellAt (img : Image) (cc line cell : Nat) : Byte := img.getD (line * cc + cell) 0#8

/-- R9: the pin of an image at tile row `r` and pin column `p` is up. -/
def pinUp (img : Image) (cc r p : Nat) : Bool := (cellAt img cc (r / 4) (p / 2)).getLsbD (dotBit (r % 4) (p % 2))

/-- R9: the row of an image at tile row `r`: the pin columns 0 to 2 × cell count − 1 whose pins are up. -/
def imageRow (img : Image) (cc r : Nat) : PinSet := pinSet (2 * cc) (pinUp img cc r)

/-- A cell byte with the two pins of one dot row set to sensed positions. -/
def setDotRow (b : Byte) (dotRow : Nat) (left right : Bool) : Byte :=
  setBit (setBit b (dotBit dotRow 0) left) (dotBit dotRow 1) right

/-- R9: a sensed row written into an image, pin by pin; the other dot rows of each cell stay. -/
def writeRow (img : Image) (cc r : Nat) (sensed : PinSet) : Image :=
  img.mapIdx fun i b =>
    if i / cc = r / 4 then
      setDotRow b (r % 4) (sensed.getLsbD (2 * (i % cc))) (sensed.getLsbD (2 * (i % cc) + 1))
    else b

/-- The blank image of `n` cells (R1: 0x00 is a blank cell). -/
def blankImage (n : Nat) : Image := List.replicate n 0#8

/-- The line count of the rectangle in force; 0 while none is in force (R4). -/
def lineCount (s : State) : Nat := s.start.settings.elim 0 (·.lineCount)

/-- The cell count of the rectangle in force; 0 while none is in force (R4). -/
def cellCount (s : State) : Nat := s.start.settings.elim 0 (·.cellCount)

/-- How many tile rows are in use (R6). -/
def rowCount (s : State) : Nat := 4 * lineCount s

/-- How many pin columns are in use (R6). -/
def colCount (s : State) : Nat := 2 * cellCount s

/-- The status cell designation in force (R11). -/
def statusCell (s : State) : Option (Nat × Nat) := s.start.settings.bind (·.statusCell)

/-- The station number in force; none before the end of CONFIG (R14). -/
def station (s : State) : Option Byte := s.start.settings.map (·.station)

/-- R11: the four tile rows of the status cell; none when no status cell is designated. -/
def statusRows (s : State) : List Nat :=
  match statusCell s with
  | none => []
  | some (line, _) => [4 * line, 4 * line + 1, 4 * line + 2, 4 * line + 3]

/-- All tile rows of the rectangle, in reading order (R10). -/
def allRows (s : State) : List Nat := List.range (rowCount s)

/-- R13: what a taken fragment makes of one byte of STAGING, `i` counting the cells of the rectangle in reading
order: page cell C of page line `line` takes the fragment's byte at position C − first. -/
def fragmentByte (c : Settings) (line first : Nat) (cells : List Byte) (i : Nat) (old : Byte) : Byte :=
  let pageLine := c.firstLine + i / c.cellCount
  let pageCell := c.firstCell + i % c.cellCount
  if pageLine = line ∧ first ≤ pageCell ∧ pageCell < first + cells.length then cells.getD (pageCell - first) old
  else old

/-- R13: STAGING after a taken fragment. -/
def writeFragment (s : State) (line first : Nat) (cells : List Byte) : Image :=
  match s.start.settings with
  | none => s.page.staging
  | some c => s.page.staging.mapIdx (fragmentByte c line first cells)

end Sys2Proof.Machine
end

