-- ==== Sys2Proof/Machine/StrikePlan.lean ====
section
/-!
DEFINITION. The strike plan and the fault map: diffs, jobs, levels, costs, rebuild, refresh and the recompute after a
sense (04_the_strike_plan.md).  The notices that end each plan operation (R66) are given in Machine/Notices.lean.
-/

namespace Sys2Proof.Machine

/-! ### The fault map -/

/-- R81: the fault map's state of the pin at tile row `r` and pin column `p`. -/
def faultAt (s : State) (r p : Nat) : PinFault := s.plan.faults.getD (r * colCount s + p) .ok

/-- The pins of tile row `r` given up as stuck. -/
def stuckPins (s : State) (r : Nat) : PinSet := pinSet (colCount s) (fun p => (faultAt s r p).isStuck)

/-- The pins of tile row `r` in state WEAK. -/
def weakPins (s : State) (r : Nat) : PinSet := pinSet (colCount s) (fun p => faultAt s r p == .weak)

/-- The fault map with the states of the pins of tile row `r` changed by a function of the pin column. -/
def changeFaults (s : State) (r : Nat) (f : Nat → PinFault → PinFault) : List PinFault :=
  s.plan.faults.mapIdx fun i x => if i / colCount s = r then f (i % colCount s) x else x

/-- R78: an OK pin that moved home becomes WEAK. -/
def markWeak (r : Nat) (pins : PinSet) (s : State) : State :=
  s.withPlan { s.plan with
    faults := changeFaults s r (fun p x => if pins.getLsbD p && x == .ok then .weak else x) }

/-- R79: the pins of a failed third strike become STUCK: those to be raised STUCK_DOWN, those to be lowered STUCK_UP. -/
def markStuck (r : Nat) (m : Moves) (s : State) : State :=
  s.withPlan { s.plan with
    faults := changeFaults s r (fun p x =>
      if m.raise.getLsbD p then .stuckDown else if m.lower.getLsbD p then .stuckUp else x) }

/-- R82, R83: every state of the fault map is OK. -/
def clearFaultMap (s : State) : State :=
  s.withPlan { s.plan with faults := s.plan.faults.map (fun _ => .ok) }

/-- R85: the number of pins in a set of states. -/
def faultCount (s : State) (f : PinFault → Bool) : Nat := s.plan.faults.countP f

/-- R85: the entries of the fault list that stand from pin number `i` of the rectangle on. -/
def faultEntries (cols : Nat) : Nat → List PinFault → List (Nat × Nat × PinFault)
  | _, [] => []
  | i, x :: xs => if x = .ok then faultEntries cols (i + 1) xs else (i / cols, i % cols, x) :: faultEntries cols (i + 1) xs

/-- R85: the FAULTS list: every pin whose state is not OK, in reading order, with its tile row and pin column. -/
def faultList (s : State) : List (Nat × Nat × PinFault) := faultEntries (colCount s) 0 s.plan.faults

/-! ### The effective target and the diff -/

/-- R12: the effective target: TARGET with the status cell's byte replaced by the current pattern. -/
def targetEff (s : State) : Image :=
  match statusCell s with
  | none => s.page.target
  | some (line, cell) => s.page.target.set (line * cellCount s + cell) (Pattern.byte s.pattern)

/-- The row of TARGET_eff at tile row `r` (R9, R12). -/
def targetRow (s : State) (r : Nat) : PinSet := imageRow (targetEff s) (cellCount s) r

/-- The row of SHOWN at tile row `r` (R9). -/
def shownRow (s : State) (r : Nat) : PinSet := imageRow s.shown (cellCount s) r

/-- R68: the diff of tile row `r`: the pins not STUCK whose SHOWN position differs from TARGET_eff. -/
def diff (s : State) (r : Nat) : Moves :=
  { raise := targetRow s r &&& ~~~shownRow s r &&& ~~~stuckPins s r
    lower := shownRow s r &&& ~~~targetRow s r &&& ~~~stuckPins s r }

/-! ### Jobs -/

/-- R65: the job of tile row `r`, if the plan holds one. -/
def jobAt (s : State) (r : Nat) : Option Job := (s.plan.jobs[r]?).join

/-- R65: the plan holds no job. -/
def planEmpty (s : State) : Bool := s.plan.jobs.toList.all Option.isNone

/-- R66: the plan job count. -/
def jobCount (s : State) : Nat := s.plan.jobs.toList.countP Option.isSome

/-- R69: one step up along NORMAL, FIRM, HARD. -/
def Level.up : Level → Level
  | .normal => .firm
  | .firm => .hard
  | .hard => .hard

/-- R69: a base level raised one step for each attempt beyond the first. -/
def levelAt (base : Level) (attempt : Nat) : Level :=
  if attempt ≤ 1 then base else if attempt = 2 then base.up else base.up.up

/-- R69: the base level of a job's pins in tile row `r`: FIRM if any of them is WEAK. -/
def baseLevel (s : State) (r : Nat) (m : Moves) : Level :=
  if m.struck &&& weakPins s r = 0#20 then .normal else .firm

/-- R70: the level factor k. -/
def Level.factor : Level → Nat
  | .normal => 2 | .firm => 3 | .hard => 4

/-- R70: the cost of a strike in cu; the quotient is rounded up. -/
def strikeCost (m : Moves) (level : Level) : Nat :=
  40 + ((12 * pinCount m.raise + 8 * pinCount m.lower) * level.factor + 1) / 2

/-- The plan with the job of tile row `r` set or removed. -/
def setJob (r : Nat) (j : Option Job) (s : State) : State :=
  s.withPlan { s.plan with jobs := s.plan.jobs.setIfInBounds r j }

/-- R64, R69: a job written from a diff with an attempt; its level is set at this moment. -/
def writeJob (r : Nat) (m : Moves) (attempt : Nat) (s : State) : State :=
  setJob r (some { moves := m, attempt := attempt, level := levelAt (baseLevel s r m) attempt }) s

/-- The job of a row removed (R65). -/
def removeJob (r : Nat) (s : State) : State := setJob r none s

/-- R65, R67: the plan emptied. -/
def emptyPlan (s : State) : State := s.withPlan { s.plan with jobs := Vector.replicate 24 none }

/-! ### Plan operations -/

/-- R71: one row of a rebuild: its job is the diff at attempt 1, or removed. -/
def rebuildRow (s : State) (r : Nat) : State :=
  if (diff s r).isEmpty then removeJob r s else writeJob r (diff s r) 1 s

/-- R71: the plan rebuilt, row by row in ascending tile row. -/
def rebuildPlan (s : State) : State := (allRows s).foldl rebuildRow s

/-- R73: the attempt a refresh gives a non-empty diff: the job's when the diff lies within it, 1 otherwise. -/
def refreshAttempt (s : State) (r : Nat) : Nat :=
  match jobAt s r with
  | none => 1
  | some j => if (diff s r).within j.moves then j.attempt else 1

/-- R73: one row refreshed. -/
def refreshRow (s : State) (r : Nat) : State :=
  if (diff s r).isEmpty then removeJob r s else writeJob r (diff s r) (refreshAttempt s r) s

/-- R74: a group of rows refreshed, in ascending tile row. -/
def refreshRows (rows : List Nat) (s : State) : State := rows.foldl refreshRow s

/-- R77: a touch-voided sense: the job is written from the diff without judging the strike. -/
def recomputeVoided (r : Nat) (m : Moves) (attempt : Nat) (s : State) : State :=
  let d := diff s r
  if d.isEmpty then removeJob r s
  else if d.within m then writeJob r d attempt s
  else writeJob r d 1 s

/-- R78: the pins of a strike at attempt 2 or 3 that moved home. -/
def movedHome (s : State) (r : Nat) (m : Moves) (attempt : Nat) : PinSet :=
  if attempt = 2 ∨ attempt = 3 then
    (m.raise &&& shownRow s r &&& targetRow s r) ||| (m.lower &&& ~~~shownRow s r &&& ~~~targetRow s r)
  else 0#20

/-- R79: the row's job after a sense that was not touch-voided, the marks of R78 already made. -/
def recomputeJob (r : Nat) (m : Moves) (attempt : Nat) (s : State) : State :=
  let d := diff s r
  if d.isEmpty then removeJob r s
  else if d.within m then
    if attempt = 1 ∨ attempt = 2 then writeJob r d (attempt + 1) s
    else removeJob r (markStuck r d s)
  else writeJob r d 1 s

/-- R76: the recompute of a sensed row, from the strike as fired and whether the sense was touch-voided. -/
def recomputeRow (r : Nat) (m : Moves) (attempt : Nat) (voided : Bool) (s : State) : State :=
  if voided then recomputeVoided r m attempt s
  else recomputeJob r m attempt (markWeak r (movedHome s r m attempt) s)

/-- R9: a sensed row written into SHOWN.  The sense's selection of its row drive (R7) begins and ends within the event
(DESIGN CHOICE, log 23). -/
def senseRow (r : Nat) (sensed : PinSet) (s : State) : State :=
  s.withShown (writeRow s.shown (cellCount s) r sensed)

end Sys2Proof.Machine
end

