-- ==== Sys2Proof/Machine/RowPipeline.lean ====
section
/-!
DEFINITION. The row pipeline: eligibility, admission, firing, withdrawal and fences (05_the_row_pipeline.md).
-/

namespace Sys2Proof.Machine

/-- R89: local line `l` is closed. -/
def lineClosed (s : State) (l : Nat) : Bool :=
  match s.touch.lines[l]? with
  | none => false
  | some g => g.closed

/-- The tile row `r` is the row of this slot. -/
def slotHas (slot : Option Slot) (r : Nat) : Bool :=
  match slot with
  | none => false
  | some x => x.row == r

/-- R86: tile row `r` is in flight. -/
def inFlight (s : State) (r : Nat) : Bool :=
  slotHas s.pipe.load r || slotHas s.pipe.strike r || slotHas s.pipe.settle r || slotHas s.pipe.sense r

/-- R90: tile row `r` is eligible. -/
def eligible (s : State) (r : Nat) : Bool := (jobAt s r).isSome && !inFlight s r && !lineClosed s (r / 4)

/-- R90: the eligible row: the lowest-numbered one. -/
def eligibleRow (s : State) : Option Nat := (List.range 24).find? (eligible s)

/-- R91: the snapshot of a job. -/
def snapshot (r : Nat) (j : Job) : Slot :=
  { row := r, moves := j.moves, attempt := j.attempt, level := j.level,
    cost := strikeCost j.moves j.level, fired := false }

/-- R91: the eligible row, if any, is placed in an empty LOAD slot. -/
def admitRow (s : State) : State :=
  match s.pipe.load, eligibleRow s with
  | none, some r =>
    match jobAt s r with
    | some j => s.withPipe { s.pipe with load := some (snapshot r j) }
    | none => s
  | _, _ => s

/-- R105, R151: the touch guard is told that the engine has left IDLE; the drift timer stops. -/
def stopDrift (s : State) : State := s.withTouch { s.touch with driftTimer := none }

/-- R151: the drift timer starts at 0 if the tile is JOINED with the engine IDLE and it does not run yet. -/
def startDrift (s : State) : State :=
  if s.start.life = .joined ∧ s.pipe.engine = .idle ∧ s.touch.driftTimer = none then
    s.withTouch { s.touch with driftTimer := some 0 }
  else s

/-- R92: an IDLE engine that is not held (R88) looks for an eligible row, and leaves IDLE if there is one. -/
def lookForRow (s : State) : State :=
  if s.pipe.engine = .idle ∧ onTheLink s = true ∧ (eligibleRow s).isSome = true then
    stopDrift (admitRow (s.withPipe { s.pipe with engine := .running, stepTimer := some 0 }))
  else s

/-- R97: the row in a slot fires now: unfired, its line open, its cost covered by the bank. -/
def canFire (s : State) (x : Slot) : Bool :=
  !x.fired && !lineClosed s (x.row / 4) && decide (x.cost ≤ s.bank.charge)

/-- R97: a firing attempt of the row in STRIKE: the strike is driven and paid for, or nothing happens. -/
def tryFire (s : State) : State :=
  match s.pipe.strike with
  | none => s
  | some x =>
    if canFire s x then
      pay x.cost (s.withPipe { s.pipe with
        strike := some { x with fired := true }, matrix := some ⟨x.row, x.moves, x.level⟩ })
    else s

/-- The slot emptied of an unfired row that satisfies a test. -/
def dropUnfired (test : Nat → Bool) (slot : Option Slot) : Option Slot :=
  match slot with
  | none => none
  | some x => if !x.fired && test x.row then none else some x

/-- R100: the unfired rows of a closing line leave LOAD and STRIKE. -/
def withdrawLine (l : Nat) (s : State) : State :=
  s.withPipe { s.pipe with
    load := dropUnfired (fun r => r / 4 == l) s.pipe.load
    strike := dropUnfired (fun r => r / 4 == l) s.pipe.strike }

/-- R102: the fence of a turn, FLATTEN or page reset: a RUNNING engine becomes FENCED and its unfired rows leave. -/
def fence (s : State) : State :=
  match s.pipe.engine with
  | .running =>
    s.withPipe { s.pipe with
      engine := .fenced
      load := dropUnfired (fun _ => true) s.pipe.load
      strike := dropUnfired (fun _ => true) s.pipe.strike }
  | .fenced => s
  | .idle => s

/-- R86: every slot is empty. -/
def slotsEmpty (s : State) : Bool :=
  s.pipe.load.isNone && s.pipe.strike.isNone && s.pipe.settle.isNone && s.pipe.sense.isNone

/-- R107: the number of slots that hold a row. -/
def slotsLive (s : State) : Nat :=
  s.pipe.load.isSome.toNat + s.pipe.strike.isSome.toNat + s.pipe.settle.isSome.toNat + s.pipe.sense.isSome.toNat

end Sys2Proof.Machine
end

