-- ==== Sys2Proof/Machine/Notices.lean ====
section
/-!
DEFINITION. What one block tells another: the hold condition (R148, R149), the status pattern (R159 to R162), the settle
check (R56, R57), and the notices that end a plan operation (R66).

A settle changes the pattern, whose refresh of the status rows gives the notices of R66 again.  The settle check can
not succeed a second time, since the page is then SETTLED, so the notices within a settle leave it out
(`quietNotices`); Laws/Notices.lean proves that the two forms agree there.
-/

namespace Sys2Proof.Machine

/-! ### The hold timer -/

/-- R148: local line `l` is held: it is closed and the plan holds a job for one of its rows. -/
def lineHeld (s : State) (l : Nat) : Bool :=
  lineClosed s l && ((jobAt s (4 * l)).isSome || (jobAt s (4 * l + 1)).isSome ||
    (jobAt s (4 * l + 2)).isSome || (jobAt s (4 * l + 3)).isSome)

/-- R150: the mask of the lines held, bit `l` for local line `l`. -/
def heldMask (s : State) : Nat := lineMask (lineCount s) (lineHeld s)

/-- R148: the hold condition: at least one local line is held. -/
def holdCondition (s : State) : Bool := (List.range (lineCount s)).any (lineHeld s)

/-- R149: the hold condition judged: RUNNING while it holds, PAUSED while it does not. -/
def judgeHold (s : State) : State :=
  match s.touch.holdPhase with
  | .running => if holdCondition s then s else s.withTouch { s.touch with holdPhase := .paused }
  | .paused => if holdCondition s then s.withTouch { s.touch with holdPhase := .running } else s
  | .inactive => s
  | .expired => s

/-- R149: the hold timer restarted by a turn or FLATTEN. -/
def restartHold (s : State) : State :=
  s.withTouch { s.touch with holdTime := 0, holdPhase := if holdCondition s then .running else .paused }

/-- R149: the hold timer after a page reset. -/
def stopHold (s : State) : State := s.withTouch { s.touch with holdTime := 0, holdPhase := .inactive }

/-! ### The status pattern -/

/-- R159, condition 2. -/
def pageReady (s : State) : Bool :=
  match s.start.settings with
  | none => false
  | some c =>
    s.page.state == .settled && decide (c.tileCount - 1 ≤ s.rail.view.length) &&
      s.rail.view.all (fun e => e.serial == s.page.turned && (e.outcome == .done || e.outcome == .doneFaults))

/-- R160: something asks for the ATTENTION overlay. -/
def attention (s : State) : Bool :=
  s.page.outcome == .doneFaults || s.rail.view.any (fun e => e.outcome == .doneFaults) ||
    s.touch.lines.any (·.failed) || !s.link.lineUp

/-- R159, R160: the pattern worked out from the inputs as they stand. -/
def patternOf (s : State) : Pattern :=
  if s.page.turned = 0 then .blank
  else if pageReady s then .ready (attention s)
  else .working (attention s)

/-- R161: the current pattern becomes the one worked out now. -/
def setPattern (s : State) : State := s.withPattern (patternOf s)

/-- R161, R162: the pattern worked out afresh; a change on a tile with a status cell has its four rows refreshed, and
the notices of R66 given by `notify`. -/
def recomputePatternWith (notify : State → State) (s : State) : State :=
  if patternOf s = s.pattern then s
  else if statusRows s = [] then setPattern s
  else notify (refreshRows (statusRows s) (setPattern s))

/-! ### Settling -/

/-- R66: the notices to the row pipeline and to the touch guard. -/
def quietNotices (s : State) : State := judgeHold (lookForRow s)

/-- R55: an announcement: the record is written and a SETTLED frame is queued. -/
def announce (serial : Half) (outcome : PageOutcome) (detail : Nat) (s : State) : State :=
  enqueueAnnounce .settled (s.withPage { s.page with record := ⟨serial, outcome, detail⟩ })

/-- R57: the pins of tile row `r` that are STUCK and whose SHOWN position differs from TARGET_eff. -/
def stuckOffTarget (s : State) (r : Nat) : PinSet := stuckPins s r &&& (shownRow s r ^^^ targetRow s r)

/-- R57: how many pins of the rectangle are STUCK off their targets. -/
def stuckOffCount (s : State) : Nat := ((allRows s).map (fun r => pinCount (stuckOffTarget s r))).sum

/-- R57: the outcome of a settle with a count of stuck pins off target. -/
def settleOutcome (n : Nat) : PageOutcome := if n = 0 then .done else .doneFaults

/-- R57: the page settles. -/
def settlePage (s : State) : State :=
  let n := stuckOffCount s
  let s1 := s.withPage { s.page with state := .settled, outcome := settleOutcome n, detail := n }
  recomputePatternWith quietNotices (announce s.page.turned (settleOutcome n) n s1)

/-- R56: the three conditions of the settle check. -/
def canSettle (s : State) : Bool := s.page.state == .working && planEmpty s && s.pipe.engine == .idle

/-- R56: the settle check. -/
def settleCheck (s : State) : State := if canSettle s then settlePage s else s

/-- R66: the notices at the end of a plan operation: to the row pipeline, the touch guard and, when the plan is empty,
the page assembler. -/
def planNotices (s : State) : State := settleCheck (quietNotices s)

/-- R161, R162: the pattern worked out afresh, with all the notices of R66. -/
def recomputePattern (s : State) : State := recomputePatternWith planNotices s

/-! ### Lines that close and open -/

/-- R145: local line `l` has closed: its unfired rows are withdrawn, then the hold condition is judged. -/
def lineCloses (l : Nat) (s : State) : State := judgeHold (withdrawLine l s)

/-- R145: a line has opened: an IDLE engine looks for an eligible row, then the hold condition is judged. -/
def lineOpens (s : State) : State := judgeHold (lookForRow s)

end Sys2Proof.Machine
end

