-- ==== Sys2Proof/Machine/Operands.lean ====
section
/-!
DEFINITION. The forms the operands take on the page link: the coding of characters on the line, two-byte fields, the CRC,
the bodies of the eight frame kinds, and the receive checks of a frame (02_the_page_link.md).
-/

namespace Sys2Proof.Machine

/-! ### Characters on the line -/

/-- R15: the bit times of a frame's lead, driven low. -/
def leadBits : Nat := 12

/-- R15: a character on the line: a start bit driven low, 8 data bits with the least significant first (high for 1), and
a stop bit driven high. -/
def charBits (b : Byte) : List Bool :=
  [false, b.getLsbD 0, b.getLsbD 1, b.getLsbD 2, b.getLsbD 3, b.getLsbD 4, b.getLsbD 5, b.getLsbD 6, b.getLsbD 7, true]

/-- R15: what a transmitter drives for a frame of some characters, bit time by bit time: the lead, then the characters
without idle time between them. -/
def wireBits (chars : List Byte) : List Bool := List.replicate leadBits false ++ chars.flatMap charBits

/-- R15: the data byte of eight readings, the first the least significant bit. -/
def dataByte (b0 b1 b2 b3 b4 b5 b6 b7 : Bool) : Byte :=
  BitVec.ofNat 8 (b0.toNat + 2 * b1.toNat + 4 * b2.toNat + 8 * b3.toNat + 16 * b4.toNat + 32 * b5.toNat +
    64 * b6.toNat + 128 * b7.toNat)

/-- R15: the characters that the readings after the lead spell, ten bit times each, and whether one of them is broken:
its stop bit reads low, or the line is released before its stop bit has been sampled.  A receiver does not examine the
start bit. -/
def readChars : List Bool → Bool × List Byte
  | [] => (false, [])
  | _ :: b0 :: b1 :: b2 :: b3 :: b4 :: b5 :: b6 :: b7 :: stop :: rest =>
    (!stop || (readChars rest).1, dataByte b0 b1 b2 b3 b4 b5 b6 b7 :: (readChars rest).2)
  | _ => (true, [])

end Sys2Proof.Machine

namespace Sys2Proof

/-- R15: a character of the frame is broken.  A line released within the lead breaks the first character, since it has
then been released since the frame began. -/
def Heard.broken (h : Heard) : Bool :=
  decide (h.line.length < Machine.leadBits) || (Machine.readChars (h.line.drop Machine.leadBits)).1

/-- R15: the characters of the frame, in order.  The readings of the lead, and of each start bit, are not examined: R15's
tests of a character name its stop bit and the line's release alone, and R15 does not say what a receiver makes of a
lead that does not read low.  That such a row is a frame like any other is the model's choice (DESIGN CHOICE, log 22). -/
def Heard.chars (h : Heard) : List Byte := (Machine.readChars (h.line.drop Machine.leadBits)).2

end Sys2Proof

namespace Sys2Proof.Machine

/-! ### Fields, bodies and checks -/

/-- R16: a two-byte field as it is sent, high byte first. -/
def halfBytes (h : Half) : List Byte := [h.extractLsb' 8 8, h.extractLsb' 0 8]

/-- A number as a two-byte field, high byte first (R171). -/
def u16 (n : Nat) : List Byte := halfBytes (BitVec.ofNat 16 n)

/-- R18: one shift of the check register, generator x^16 + x^12 + x^5 + 1. -/
def crcShift (c : Half) : Half := if c.msb then (c <<< 1) ^^^ 0x1021#16 else c <<< 1

/-- `k` shifts of the check register. -/
def crcShifts : Nat → Half → Half
  | 0, c => c
  | k + 1, c => crcShifts k (crcShift c)

/-- R18: one byte fed into the check register, its most significant bit first. -/
def crcByte (c : Half) (b : Byte) : Half := crcShifts 8 (c ^^^ (b ++ 0#8 : BitVec 16))

/-- R18: the check over some bytes; the register starts at 0xFFFF, with no final inversion. -/
def crc16 (bytes : List Byte) : Half := bytes.foldl crcByte 0xFFFF#16

/-- R17: the kind code of a body. -/
def Body.kindCode : Body → Byte
  | .page .. => 1
  | .content .. => 2
  | .turn .. => 3
  | .settled .. => 4
  | .draw .. => 5
  | .query .. => 6
  | .reply .. => 7
  | .reset .. => 8

/-- R17: the body bytes, in the order they are sent. -/
def bodyBytes : Body → List Byte
  | .page serial mode => halfBytes serial ++ [mode]
  | .content serial seq line first cells => halfBytes serial ++ halfBytes seq ++ [line, first] ++ cells
  | .turn serial total => halfBytes serial ++ halfBytes total
  | .settled serial outcome detail => halfBytes serial ++ [outcome] ++ halfBytes detail
  | .draw demand firstLine lineCount firstCell cellCount pageState serial outcome =>
    [demand, firstLine, lineCount, firstCell, cellCount, pageState] ++ halfBytes serial ++ [outcome]
  | .query target tag kind arg => [target, tag, kind] ++ arg
  | .reply tag outcome kind code data => [tag, outcome, kind, code] ++ data
  | .reset target scope => [target, scope]

/-- R16: the bytes of a frame before its check: kind code, sender, body length, body. -/
def frameHead (sender : Byte) (b : Body) : List Byte :=
  [Body.kindCode b, sender, BitVec.ofNat 8 (bodyBytes b).length] ++ bodyBytes b

/-- R16: the characters of a frame, the check last, high byte first. -/
def frameChars (sender : Byte) (b : Body) : List Byte :=
  frameHead sender b ++ halfBytes (crc16 (frameHead sender b))

/-- R17: the checks of a body ("malformed if", negated). -/
def bodyOk : Body → Bool
  | .page serial mode => serial != 0 && decide (mode.toNat ≤ 1)
  | .content serial seq line first cells =>
    decide (1 ≤ cells.length) && decide (cells.length ≤ 40) && serial != 0 && decide (seq.toNat ≤ 4095) &&
      decide (line.toNat ≤ 31) && decide (first.toNat ≤ 63) && decide (first.toNat + cells.length ≤ 64)
  | .turn serial total => serial != 0 && decide (total.toNat ≤ 4096)
  | .settled _ outcome _ => decide (1 ≤ outcome.toNat) && decide (outcome.toNat ≤ 4)
  | .draw demand .. => decide (demand.toNat ≤ 12)
  | .query _ _ _ arg => decide (arg.length ≤ 4)
  | .reply _ _ _ _ data => decide (data.length ≤ 40)
  | .reset target scope => decide (scope.toNat ≤ 1) && (decide (target.toNat ≤ 31) || target == 255)

/-- R17: the body that a kind code and body bytes spell; none where the bytes are too few or too many for the kind. -/
def parseBody (kind : Nat) (bytes : List Byte) : Option Body :=
  match kind, bytes with
  | 1, [s1, s0, mode] => some (.page (s1 ++ s0 : BitVec 16) mode)
  | 2, s1 :: s0 :: q1 :: q0 :: line :: first :: cells =>
    some (.content (s1 ++ s0 : BitVec 16) (q1 ++ q0 : BitVec 16) line first cells)
  | 3, [s1, s0, n1, n0] => some (.turn (s1 ++ s0 : BitVec 16) (n1 ++ n0 : BitVec 16))
  | 4, [s1, s0, outcome, d1, d0] => some (.settled (s1 ++ s0 : BitVec 16) outcome (d1 ++ d0 : BitVec 16))
  | 5, [demand, fl, lc, fc, cc, ps, t1, t0, outcome] => some (.draw demand fl lc fc cc ps (t1 ++ t0 : BitVec 16) outcome)
  | 6, target :: tag :: kindByte :: arg => some (.query target tag kindByte arg)
  | 7, tag :: outcome :: kindByte :: code :: data => some (.reply tag outcome kindByte code data)
  | 8, [target, scope] => some (.reset target scope)
  | _, _ => none

/-- What the checks of R20 make of a frame. -/
inductive Verdict where
  /-- Steps 1 and 2: counted in crc_errors. -/
  | crcError
  /-- Steps 3, 4 and 6: counted in malformed. -/
  | malformed
  /-- Step 5: counted in unknown_kind. -/
  | unknownKind
  /-- A good frame. -/
  | good (sender : Byte) (body : Body)
  deriving DecidableEq, Repr

/-- R20, step 6: the body checks of R17 on the bytes of the body. -/
def judgeBody (kind sender : Byte) (bytes : List Byte) : Verdict :=
  match parseBody kind.toNat bytes with
  | none => .malformed
  | some b => if bodyOk b then .good sender b else .malformed

/-- R20, steps 3 to 6, on a frame whose check agrees. -/
def judgeFields (chars : List Byte) : Verdict :=
  match chars with
  | kind :: sender :: n :: rest =>
    if 48 < n.toNat ∨ chars.length ≠ n.toNat + 5 then .malformed
    else if 31 < sender.toNat then .malformed
    else if kind.toNat = 0 ∨ 8 < kind.toNat then .unknownKind
    else judgeBody kind sender (rest.take n.toNat)
  | _ => .crcError

/-- R20: the six checks of a frame, in order. -/
def judgeFrame (broken : Bool) (chars : List Byte) : Verdict :=
  if broken || decide (chars.length < 5) then .crcError
  else if halfBytes (crc16 (chars.take (chars.length - 2))) ≠ chars.drop (chars.length - 2) then .crcError
  else judgeFields chars

end Sys2Proof.Machine
end

