-- ==== Sys2Proof/Machine/LineEvents.lean ====
section
/-!
DEFINITION. The link controller's own events: a frame's lead, collision, jam, completion and the line state (R25 to
R34, R37).
-/

namespace Sys2Proof.Machine

/-- R32: the body of a DRAW built now. -/
def drawBody (s : State) : Body :=
  let c := s.start.settings
  .draw (BitVec.ofNat 8 (s.bank.demand / 50))
    (BitVec.ofNat 8 (c.elim 0 (·.firstLine))) (BitVec.ofNat 8 (lineCount s))
    (BitVec.ofNat 8 (c.elim 0 (·.firstCell))) (BitVec.ofNat 8 (cellCount s))
    (PageState.code s.page.state) s.page.turned (PageOutcome.code s.page.outcome)

/-- R32: the body of a SETTLED built now, from the announcement record. -/
def settledBody (s : State) : Body :=
  .settled s.page.record.serial (PageOutcome.code s.page.record.outcome) (BitVec.ofNat 16 s.page.record.detail)

/-- R32: the body with which a queued frame goes on the line now. -/
def frameBody (s : State) : QFrame → Body
  | .reply r => .reply r.tag r.outcome r.kind r.code r.data
  | .announce .draw _ => drawBody s
  | .announce .settled _ => settledBody s

/-- R27: the bit times of a jam, driven low. -/
def jamBits : Nat := 32

/-- R14 to R16, R27: what LKA and LKB carry, bit time by bit time (`true` high): the frame of an attempt that is being
sent; the jam, and no further frame bits, of one that has collided; nothing while the drivers are released. -/
def lineBits (s : State) : List Bool :=
  match s.link.onLine with
  | none => []
  | some o =>
    match o.phase with
    | .sending => wireBits (frameChars o.sender o.body)
    | .jamming => List.replicate jamBits false

/-- R14: LKEN is active from the first bit time of a frame to its last or to the end of its jam. -/
def lken (s : State) : Bool := s.link.onLine.isSome

/-- R116: the demand carried by a DRAW body, in cu; none for another body. -/
def carriedDemand : Body → Option Nat
  | .draw demand .. => some (demand.toNat * 50)
  | _ => none

/-- R25: the line becomes busy; a wait under way is given up, with attempt and window as they were. -/
def lineBusy (s : State) : State := s.withLink { s.link with quiet := false, wait := none }

/-- R25, R32: the drawn slot begins with the line released: the head frame's lead starts, with its body built now. -/
def beginAttempt (s : State) : State :=
  if headReady s && s.link.wait.isSome then
    match s.link.queue.head?, station s with
    | some f, some st =>
      s.withLink { s.link with
        wait := none, quiet := false
        onLine := some { phase := .sending, holdsHead := true, preReset := false, sender := st, body := frameBody s f } }
    | _, _ => s
  else s

/-- R24: the line has stayed released for the quiet gap; contention begins for a ready head frame. -/
def quietGapEnds (s : State) : State :=
  if s.link.onLine.isSome then s else tryContend (s.withLink { s.link with quiet := true })

/-- R29, R30: an attempt on the line completes: the frame leaves the queue, or stays as a fresh frame when its renewal
mark is set; a DRAW's completion is notified (R116). -/
def completeAttempt (o : OnLine) (s : State) : State :=
  let l := if headRenew s.link.queue then s.link.renewHead else s.link.popHead
  let s1 := s.withLink { l with onLine := none, quiet := false }
  match carriedDemand o.body with
  | none => s1
  | some d => drawCompleted d s1

/-- R28: the next window: doubled, up to 256. -/
def doubleWindow (w : Nat) : Nat := min (2 * w) 256

/-- R28, R30, R37: what a collision makes of the queue and the backoff, for a frame that retries, is abandoned, is
renewed at its tenth attempt, or only runs to its end after a LINK reset. -/
def collideLink (o : OnLine) (l : Link) : Link :=
  let renew := headRenew l.queue
  let jam (holds : Bool) : Option OnLine := some { o with phase := .jamming, holdsHead := holds, preReset := false }
  if o.preReset then
    if renew then { l.renewHead with onLine := jam true } else { l.popHead with onLine := jam false }
  else if l.attempt < 10 then
    { l with
      attempt := l.attempt + 1, window := doubleWindow l.window, queue := mapHead QFrame.unmarked l.queue
      onLine := jam true }
  else
    let l' := { l with counters := l.counters.inc .abandoned }
    if renew then { l'.renewHead with onLine := jam true } else { l'.popHead with onLine := jam false }

/-- R28, R30: the collision abandons the frame. -/
def abandons (o : OnLine) (l : Link) : Bool := !o.preReset && decide (10 ≤ l.attempt)

/-- R27: an attempt being sent collides: collisions counted once, R28 applied, and a DRAW's abandonment notified. -/
def collide (o : OnLine) (s : State) : State :=
  let s1 := count .collisions s
  let s2 := s1.withLink { collideLink o s1.link with quiet := false }
  if abandons o s.link && (carriedDemand o.body).isSome then drawAbandoned s2 else s2

/-- R27, R37: the jam ends and the line is released; a frame from before a LINK reset that still stands at the head
leaves the queue. -/
def endJam (o : OnLine) (s : State) : State :=
  let l := if o.preReset && o.holdsHead then s.link.popHead else s.link
  s.withLink { l with onLine := none, quiet := false }

/-- R34: an attempt on the line is ended by the line going down. -/
def cutOff (s : State) : State :=
  match s.link.onLine with
  | none => s
  | some o =>
    match o.phase with
    | .jamming => endJam o s
    | .sending =>
      let s1 := collide o s
      s1.withLink { s1.link with onLine := none }

/-- R33: the line state becomes LINK_UP: the allowance is recomputed without the cap, the pattern is worked out, and a
head frame contends (R31; the line has been released for longer than the quiet gap). -/
def lineComesUp (s : State) : State :=
  if s.link.lineUp then s
  else tryContend (recomputePattern (recomputeAllowance (s.withLink { s.link with lineUp := true, quiet := true })))

/-- R33, R34: the line state becomes LINK_DOWN: an attempt on the line ends, a wait is given up (R31), the allowance is
capped (R129), and the pattern is worked out. -/
def lineGoesDown (s : State) : State :=
  if s.link.lineUp then
    let s1 := cutOff s
    recomputePattern (recomputeAllowance (s1.withLink { s1.link with lineUp := false, quiet := false, wait := none }))
  else s

/-- R37: the link controller at a LINK reset: every frame not on the line is removed, an attempt on the line runs to its
end with its renewal mark disregarded, the backoff returns to attempt 1 and W = 8, the counters and the clash flag are
cleared, a wait is given up (R31), and the line state is kept. -/
def resetLinkControl (s : State) : State :=
  let l := s.link
  let q := if l.headOnLine then (l.queue.take 1).map QFrame.unmarked else []
  s.withLink { l with
    queue := q, onLine := l.onLine.map (fun o => { o with preReset := o.holdsHead })
    attempt := 1, window := 8, wait := none, counters := Counters.zero, clash := false }

end Sys2Proof.Machine
end

