-- ==== Sys2Proof/Machine/PeerView.lean ====
section
/-!
DEFINITION. The peer view: what DRAW and SETTLED frames of peers make of it, and the expiry of its entries (R120 to
R125).
-/

namespace Sys2Proof.Machine

/-- The view holds an entry of a station. -/
def inView (view : List PeerEntry) (station : Byte) : Bool := view.any (fun e => e.station == station)

/-- The view without a station's entry. -/
def dropStation (view : List PeerEntry) (station : Byte) : List PeerEntry :=
  view.filter (fun e => e.station != station)

/-- R121, R124: the view after a DRAW.  A renewed or new entry has the latest deadline and so stands last; in a full
view a new entry takes the place of the one with the earliest deadline, which stands first. -/
def renewEntry (view : List PeerEntry) (e : PeerEntry) : List PeerEntry :=
  if inView view e.station then dropStation view e.station ++ [e]
  else if view.length < viewLimit then view ++ [e]
  else view.tail ++ [e]

/-- R121: a DRAW delivered to the rail share. -/
def takeDraw (sender demand : Byte) (serial : Half) (outcome : Byte) (s : State) : State :=
  let e : PeerEntry :=
    { station := sender, demand := demand.toNat * 50, serial := serial, outcome := outcomeOfCode outcome,
      remaining := entryLife }
  recomputeAllowance (recomputePattern (s.withRail { s.rail with view := renewEntry s.rail.view e }))

/-- R122: the view after a SETTLED of a station in it. -/
def settleEntry (view : List PeerEntry) (sender : Byte) (serial : Half) (outcome : Byte) : List PeerEntry :=
  view.map fun e => if e.station = sender then { e with serial := serial, outcome := outcomeOfCode outcome } else e

/-- R122: a SETTLED delivered to the rail share. -/
def takeSettled (sender : Byte) (serial : Half) (outcome : Byte) (s : State) : State :=
  if inView s.rail.view sender then
    recomputePattern (s.withRail { s.rail with view := settleEntry s.rail.view sender serial outcome })
  else s

/-- R123: the deadline of a station's entry is reached; one that a DRAW has moved on is not. -/
def entryDue (view : List PeerEntry) (station : Byte) : Bool :=
  view.any (fun e => e.station == station && e.remaining == 0)

/-- R123: the expiry of an entry whose deadline is reached; otherwise the expiry does not take place. -/
def expireEntry (st : Byte) (s : State) : State :=
  if entryDue s.rail.view st then
    recomputeAllowance (recomputePattern (s.withRail { s.rail with view := dropStation s.rail.view st }))
  else s

end Sys2Proof.Machine
end

