-- ==== Sys2Proof/Machine/PipelineStep.lean ====
section
/-!
DEFINITION. The pipeline's step, stage by stage, and the charge bank's rail period (R93 to R98, R110).
-/

namespace Sys2Proof.Machine

/-- R94: stage 1 of a step: the SENSE row is sensed into SHOWN and recomputed, with the notices of R66. -/
def senseStage (sensed : PinSet) (s : State) : State :=
  match s.pipe.sense with
  | none => s
  | some x =>
    let s1 := senseRow x.row sensed (s.withPipe { s.pipe with sense := none })
    planNotices (recomputeRow x.row x.moves x.attempt (lineClosed s (x.row / 4)) s1)

/-- R93: stage 2: the SETTLE row moves to SENSE. -/
def settleStage (s : State) : State :=
  match s.pipe.settle with
  | none => s
  | some x => s.withPipe { s.pipe with settle := none, sense := some x }

/-- R93: stage 3: a fired STRIKE row moves to SETTLE. -/
def strikeStage (s : State) : State :=
  match s.pipe.strike with
  | none => s
  | some x => if x.fired then s.withPipe { s.pipe with strike := none, settle := some x } else s

/-- R93: stage 4: the LOAD row enters an empty STRIKE and tries to fire. -/
def loadStage (s : State) : State :=
  match s.pipe.load, s.pipe.strike with
  | some x, none => tryFire (s.withPipe { s.pipe with load := none, strike := some x })
  | _, _ => s

/-- R93: stage 5: a RUNNING engine admits the eligible row into an empty LOAD. -/
def admissionStage (s : State) : State := if s.pipe.engine = .running then admitRow s else s

/-- R96, R105: the engine becomes IDLE: the step timer stops, the drift timer starts if the tile is JOINED, and the
page assembler makes its settle check. -/
def becomeIdle (s : State) : State :=
  settleCheck (startDrift (s.withPipe { s.pipe with engine := .idle, stepTimer := none }))

/-- R96: the check at the end of a step. -/
def engineCheck (s : State) : State :=
  if slotsEmpty s then
    match s.pipe.engine with
    | .fenced =>
      if (eligibleRow s).isSome then admitRow (s.withPipe { s.pipe with engine := .running }) else becomeIdle s
    | .running => becomeIdle s
    | .idle => s
  else s

/-- R93: the stages of a step in order, and the check of R96. -/
def runStep (sensed : PinSet) (s : State) : State :=
  engineCheck (admissionStage (loadStage (strikeStage (settleStage (senseStage sensed s)))))

/-- R87, R93: an expiry of the step timer, which runs on; the pulse of an earlier strike is over (R106, log 5). -/
def stepExpires (sensed : PinSet) (s : State) : State :=
  if Timer.due stepPeriod s.pipe.stepTimer then
    runStep sensed (s.withPipe { s.pipe with stepTimer := some 0, matrix := none })
  else s

/-- R110: the gain of a rail period. -/
def railGain (s : State) : Nat := min s.rail.applied (bankLimit - s.bank.charge)

/-- R110: an expiry of the rail period timer, which runs on: a gain of at least 1 is a charge rise. -/
def railExpires (s : State) : State :=
  if Timer.due railPeriod s.bank.railTimer then
    let g := railGain s
    let s1 := s.withBank { s.bank with railTimer := some 0, transfer := g, charge := s.bank.charge + g }
    if g = 0 then s1 else tryFire (updateDemand s1)
  else s

end Sys2Proof.Machine
end

