-- ==== Sys2Proof/Machine/PageAssembly.lean ====
section
/-!
DEFINITION. The page assembler: serials, PAGE, CONTENT and TURN frames, FLATTEN, the page reset and the hold report
(03_page_assembly_and_turning.md).
-/

namespace Sys2Proof.Machine

/-- R38: serial `a` is newer than serial `b`. -/
def newer (a b : Half) : Bool := decide (1 ≤ (a - b).toNat) && decide ((a - b).toNat ≤ 32767)

/-- R38: a serial is newer than T; every serial is when T is 0. -/
def newerThanTurned (a t : Half) : Bool := t == 0 || newer a t

/-- R39: S, 0 when EMPTY. -/
def Staging.serial : Staging → Half
  | .empty => 0
  | .assembling serial _ => serial

/-- R39: e, 0 when EMPTY. -/
def Staging.expected : Staging → Nat
  | .empty => 0
  | .assembling _ expected => expected

/-- R171, byte 6: the staging state's code. -/
def Staging.code : Staging → Byte
  | .empty => 0
  | .assembling _ _ => 1

/-- R40: STAGING as a PAGE frame's mode fills it: blank for FULL (0), a copy of TARGET for PATCH (1). -/
def stagingFill (s : State) (mode : Byte) : Image :=
  if mode = 0 then s.page.staging.map (fun _ => 0#8) else s.page.target

/-- R42, R43: page `serial` is opened: STAGING filled, S set, e at 0. -/
def openPage (serial : Half) (mode : Byte) (s : State) : State :=
  s.withPage { s.page with staging := stagingFill s mode, stagingState := .assembling serial 0 }

/-- R41 to R43: a PAGE frame. -/
def takePage (serial : Half) (mode : Byte) (s : State) : State :=
  if newerThanTurned serial s.page.turned = false then count .stale s
  else
    match s.page.stagingState with
    | .empty => openPage serial mode s
    | .assembling cur _ =>
      if cur = serial then openPage serial mode s else count .superseded (openPage serial mode s)

/-- R45: a fragment taken: its overlap written into STAGING, e raised by one. -/
def takeFragment (cur : Half) (e : Nat) (line first : Byte) (cells : List Byte) (s : State) : State :=
  s.withPage { s.page with
    staging := writeFragment s line.toNat first.toNat cells
    stagingState := .assembling cur (e + 1) }

/-- R44 to R47: a CONTENT frame. -/
def takeContent (serial seq : Half) (line first : Byte) (cells : List Byte) (s : State) : State :=
  match s.page.stagingState with
  | .empty => count .orphans s
  | .assembling cur e =>
    if cur ≠ serial then count .orphans s
    else if seq.toNat = e then takeFragment cur e line first cells s
    else if e < seq.toNat then count .gapDrops s
    else count .duplicates s

/-- R49, R59: what a turn and a FLATTEN share, the images and serials already set: the page state WORKING, the hold
timer restarted, the pattern worked out, a RUNNING engine fenced, the plan rebuilt with its notices, and the settle
check made once.  The engine state that decides the fence is the one the event finds (R102); the pattern's refresh of
the status rows is part of the rebuild (R72). -/
def startWork (s : State) : State :=
  let s1 := s.withPage { s.page with state := .working, outcome := .none, detail := 0, heldMark := false }
  settleCheck (planNotices (rebuildPlan (fence (setPattern (restartHold s1)))))

/-- R49: a TURN frame taken. -/
def turnTaken (serial : Half) (s : State) : State :=
  startWork (s.withPage { s.page with target := s.page.staging, turned := serial, stagingState := .empty })

/-- R59: a FLATTEN. -/
def flattenPage (s : State) : State :=
  startWork (s.withPage { s.page with target := s.page.target.map (fun _ => 0#8) })

/-- R51: a duplicate turn is answered from the page's state. -/
def duplicateTurn (s : State) : State :=
  match s.page.state with
  | .settled => announce s.page.turned s.page.outcome s.page.detail s
  | .working => if s.page.outcome = .held then announce s.page.turned .held s.page.detail s else s
  | .idle => s

/-- R48, cases 3 to 5: a TURN frame for a page not under assembly. -/
def turnElsewhere (serial : Half) (s : State) : State :=
  if serial = s.page.turned then duplicateTurn s
  else if newerThanTurned serial s.page.turned then announce serial .lacking 0 s
  else count .stale s

/-- R48: a TURN frame. -/
def takeTurn (serial total : Half) (s : State) : State :=
  match s.page.stagingState with
  | .empty => turnElsewhere serial s
  | .assembling cur e =>
    if cur ≠ serial then turnElsewhere serial s
    else if total.toNat ≤ e then turnTaken serial s
    else announce serial .lacking e s

/-- R61: the page reset's effect on the page assembler's own state. -/
def clearPage (s : State) : State :=
  s.withPage { s.page with
    stagingState := .empty, turned := 0, target := s.shown, state := .idle, outcome := .none, detail := 0,
    heldMark := false }

/-- R61: the page reset: the hold timer INACTIVE, the pattern worked out, a RUNNING engine fenced, the plan emptied and
the status rows refreshed (R67), with the notices of R66. -/
def pageReset (s : State) : State :=
  let s1 := emptyPlan (fence (setPattern (stopHold (clearPage s))))
  planNotices (refreshRows (statusRows s1) s1)

/-- R58: the report that the hold limit has expired, with the mask of the lines held. -/
def holdReport (mask : Nat) (s : State) : State :=
  if s.page.state = .working ∧ s.page.heldMark = false then
    let s1 := s.withPage { s.page with outcome := .held, detail := mask, heldMark := true }
    recomputePattern (announce s.page.turned .held mask s1)
  else s

end Sys2Proof.Machine
end

