-- ==== Sys2Proof/Machine/TouchGuard.lean ====
section
/-!
DEFINITION. The touch guard: guard states, filters, strip failure, the hold limit and the drift scan
(08_touch_guard_and_drift_repair.md).
-/

namespace Sys2Proof.Machine

/-- A line at the end of CONFIG (R141, R157): CLEAR with its timers stopped. -/
def LineGuard.initial : LineGuard :=
  { guard := .clear, arrival := none, departure := none, presence := none, failed := false }

/-- R143, R146: presence begins on a line's strip.  It can begin only in CLEAR and LEAVING. -/
def LineGuard.presenceBegins (g : LineGuard) : LineGuard :=
  let presence : Timer := if g.failed then g.presence else some 0
  match g.guard with
  | .clear => { g with guard := .arriving, arrival := some 0, presence := presence }
  | .leaving => { g with guard := .touched, departure := none, presence := presence }
  | .arriving => g
  | .touched => g

/-- R143, R146: presence ends on a line's strip.  It can end only in ARRIVING and TOUCHED. -/
def LineGuard.presenceEnds (g : LineGuard) : LineGuard :=
  match g.guard with
  | .arriving => { g with guard := .clear, arrival := none, presence := none }
  | .touched => { g with guard := .leaving, departure := some 0, presence := none }
  | .clear => g
  | .leaving => g

/-- R143: the arrival filter of an ARRIVING line expires, 30 ms after it started. -/
def LineGuard.arrivalExpires (g : LineGuard) : LineGuard :=
  if g.guard = .arriving ∧ Timer.due arrivalPeriod g.arrival = true then { g with guard := .touched, arrival := none }
  else g

/-- R143: the departure filter of a LEAVING line expires, 200 ms after it started. -/
def LineGuard.departureExpires (g : LineGuard) : LineGuard :=
  if g.guard = .leaving ∧ Timer.due departurePeriod g.departure = true then { g with guard := .clear, departure := none }
  else g

/-- R146: the presence timer reaches 600 s: the strip is FAILED. -/
def LineGuard.presenceExpires (g : LineGuard) : LineGuard :=
  if Timer.due presencePeriod g.presence then { g with failed := true, presence := none } else g

/-- R147: a FAILED flag cleared; a strip that reads present starts its presence timer at 0. -/
def LineGuard.clearFailed (g : LineGuard) : LineGuard :=
  if g.failed then { g with failed := false, presence := if g.present then some 0 else none } else g

/-- The touch guard's state of a line changed; a strip outside the rectangle is not sampled (R8). -/
def changeLine (l : Nat) (f : LineGuard → LineGuard) (s : State) : State :=
  s.withTouch { s.touch with lines := s.touch.lines.modify l f }

/-- R145: a line's state changed, with the notices of a closing or an opening where there is one. -/
def guardEvent (l : Nat) (f : LineGuard → LineGuard) (s : State) : State :=
  let s1 := changeLine l f s
  if lineClosed s l = lineClosed s1 l then s1
  else if lineClosed s1 l then lineCloses l s1
  else lineOpens s1

/-- R146: the presence timer of local line `l` has reached 600 s. -/
def presenceDue (s : State) (l : Nat) : Bool :=
  match s.touch.lines[l]? with
  | none => false
  | some g => Timer.due presencePeriod g.presence

/-- R146: the presence timer of a line reaches 600 s: the FAILED flag is set, the pattern is worked out afresh, and the
line opens if it was closed. -/
def stripFails (l : Nat) (s : State) : State :=
  if presenceDue s l then
    let s1 := recomputePattern (changeLine l LineGuard.presenceExpires s)
    if lineClosed s l then lineOpens s1 else s1
  else s

/-- R147: local line `l` closes when its strip's FAILED flag is cleared. -/
def recloses (s : State) (l : Nat) : Bool :=
  match s.touch.lines[l]? with
  | none => false
  | some g => g.failed && g.guarded

/-- R147: the local lines that close when the FAILED flags are cleared, in ascending order. -/
def reclosedLines (s : State) : List Nat := (List.range s.touch.lines.length).filter (recloses s)

/-- R147: the FAILED flags cleared, the pattern worked out afresh, and the guarded lines among them closed.  The refresh
of the status rows that a change of pattern brings (R162) can empty the plan of a WORKING page on an IDLE engine; the
page then settles at once (R66, R56), before every row is refreshed, where R83 and R177 say that the page state and the
last outcome are not changed (DESIGN CHOICE, log 24). -/
def clearStrips (s : State) : State :=
  if s.touch.lines.any (·.failed) then
    (reclosedLines s).foldl (fun t l => lineCloses l t)
      (recomputePattern (s.withTouch { s.touch with lines := s.touch.lines.map LineGuard.clearFailed }))
  else s

/-- R150: the hold limit in ms. -/
def holdLimitMs (s : State) : Nat := s.start.settings.elim 0 (fun c => c.holdLimit * 1000)

/-- R150: the accumulated hold time reaches H in RUNNING. -/
def holdExpires (s : State) : State :=
  if s.touch.holdPhase = .running ∧ holdLimitMs s ≤ s.touch.holdTime then
    holdReport (heldMask s) (s.withTouch { s.touch with holdPhase := .expired, holdTime := holdLimitMs s })
  else s

/-- R152: the local lines in the order the drift scan tries them: from the rotation pointer on, wrapping. -/
def driftOrder (s : State) : List Nat :=
  (List.range (lineCount s)).map (fun i => (s.touch.rotation + i) % lineCount s)

/-- R152: the line the drift scan chooses: the first open one. -/
def driftLine (s : State) : Option Nat := (driftOrder s).find? (fun l => !lineClosed s l)

/-- R153: the four rows of line `l` sensed into SHOWN. -/
def senseLine (l : Nat) (r0 r1 r2 r3 : PinSet) (s : State) : State :=
  senseRow (4 * l + 3) r3 (senseRow (4 * l + 2) r2 (senseRow (4 * l + 1) r1 (senseRow (4 * l) r0 s)))

/-- R153: the scan of line `l`: its rows sensed and refreshed, with the notices once at the end.  By R153 and R92 the
engine admits one of the scan's jobs in this same event, so that a line that closes right after it has a row in LOAD to
withdraw (R100); R154 says that the scan's jobs are then not in flight.  The model follows R153, R92 and R100
(DESIGN CHOICE, log 21). -/
def scanLine (l : Nat) (r0 r1 r2 r3 : PinSet) (s : State) : State :=
  let s1 := s.withTouch { s.touch with rotation := (l + 1) % lineCount s }
  planNotices (refreshRows [4 * l, 4 * l + 1, 4 * l + 2, 4 * l + 3] (senseLine l r0 r1 r2 r3 s1))

/-- R152: an expiry of the drift timer, which runs on. -/
def driftExpires (r0 r1 r2 r3 : PinSet) (s : State) : State :=
  if Timer.due driftPeriod s.touch.driftTimer then
    let s1 := s.withTouch { s.touch with driftTimer := some 0 }
    match driftLine s1 with
    | none => s1
    | some l => scanLine l r0 r1 r2 r3 s1
  else s

end Sys2Proof.Machine
end

