-- ==== Sys2Proof/Machine/QueryResponder.lean ====
section
/-!
DEFINITION. The query responder: classification, actions, reply data and replies (10_queries_and_replies.md).
-/

namespace Sys2Proof.Machine

/-! ### Reply data -/

/-- A small number as one byte of reply data. -/
def u8 (n : Nat) : Byte := BitVec.ofNat 8 n

/-- R156: the guarded-line mask. -/
def guardedMask (s : State) : Nat :=
  lineMask 6 (fun l => match s.touch.lines[l]? with | none => false | some g => g.guarded)

/-- R156: the failed-strip mask. -/
def failedMask (s : State) : Nat :=
  lineMask 6 (fun l => match s.touch.lines[l]? with | none => false | some g => g.failed)

/-- R171, byte 27. -/
def statusFlags (s : State) : Byte :=
  flagsByte s.start.adjusted s.link.clash ((s.start.settings.map (·.source == .defaults)).getD false)

/-- R171: the 28 bytes of the STATUS summary. -/
def summaryData (s : State) : List Byte :=
  [Life.code s.start.life, u8 s.link.lineUp.toNat, PageState.code s.page.state, PageOutcome.code s.page.outcome] ++
  halfBytes s.page.turned ++
  [Staging.code s.page.stagingState] ++ halfBytes (Staging.serial s.page.stagingState) ++
  u16 (Staging.expected s.page.stagingState) ++
  [u8 (jobCount s), Engine.code s.pipe.engine, u8 (slotsLive s)] ++
  u16 s.bank.charge ++ u16 s.rail.applied ++
  [u8 (s.bank.demand / 50), u8 s.rail.view.length, u8 (guardedMask s), u8 (failedMask s)] ++
  u16 (faultCount s (· == .weak)) ++ u16 (faultCount s PinFault.isStuck) ++
  [Pattern.byte s.pattern, statusFlags s]

/-- R172: the 24 bytes of the twelve counters. -/
def countersData (s : State) : List Byte := (Counters.list s.link.counters).flatMap u16

/-- R173: an image with 0 in place of the status cell's byte. -/
def digestCells (s : State) (img : Image) : List Byte :=
  match statusCell s with
  | none => img
  | some (line, cell) => img.set (line * cellCount s + cell) 0#8

/-- R173: the digest of an image. -/
def digestData (s : State) (img : Image) : List Byte := halfBytes (crc16 (digestCells s img))

/-- R174: the three bytes of a fault list entry. -/
def entryBytes (e : Nat × Nat × PinFault) : List Byte := [u8 e.1, u8 e.2.1, PinFault.code e.2.2]

/-- R174: the reply data of FAULTS from a start index. -/
def faultsData (s : State) (start : Byte) : List Byte :=
  u16 (faultList s).length ++ [start] ++ (((faultList s).drop start.toNat).take 12).flatMap entryBytes

/-- R175, R11: the status cell as IDENTIFY reports it. -/
def statusCellBytes (cell : Option (Nat × Nat)) : List Byte :=
  match cell with
  | none => [0xFF, 0xFF]
  | some (line, c) => [u8 line, u8 c]

/-- R175: the 15 bytes of IDENTIFY. -/
def identifyData (s : State) : List Byte :=
  match s.start.settings with
  | none => []
  | some c =>
    u16 0x0610 ++ [1, c.station, u8 c.firstLine, u8 c.lineCount, u8 c.firstCell, u8 c.cellCount, u8 c.tileCount] ++
    u16 c.railLimit ++ [u8 c.holdLimit] ++ statusCellBytes c.statusCell ++ [Source.code c.source]

/-! ### Classification -/

/-- What R168 makes of a taken query. -/
inductive QueryCase where
  | summary
  | counters
  | digestShown
  | digestTarget
  | faultsFrom (start : Byte)
  | flatten
  | clearFaults
  | identify
  | clearCounters
  /-- A known kind with a bad argument: REFUSED. -/
  | badArgument
  /-- A query kind 0 or 8 to 255: UNKNOWN. -/
  | unknown
  deriving DecidableEq, Repr

/-- R168: the query with an argument of length 0. -/
def noArgument (arg : List Byte) (c : QueryCase) : QueryCase := if arg = [] then c else .badArgument

/-- R168: a query classified by its kind, then by the length and value of its argument. -/
def classify (kind : Byte) (arg : List Byte) : QueryCase :=
  match kind.toNat with
  | 1 => if arg = [0] then .summary else if arg = [1] then .counters else .badArgument
  | 2 => if arg = [0] then .digestShown else if arg = [1] then .digestTarget else .badArgument
  | 3 => match arg with | [start] => .faultsFrom start | _ => .badArgument
  | 4 => noArgument arg .flatten
  | 5 => noArgument arg .clearFaults
  | 6 => noArgument arg .identify
  | 7 => noArgument arg .clearCounters
  | _ => .unknown

/-- R168: the outcome of a classified query: 1 ACCEPT, 2 REFUSED, 3 UNKNOWN. -/
def QueryCase.outcome : QueryCase → Byte
  | .badArgument => 2
  | .unknown => 3
  | _ => 1

/-- R168: the result code: 1 BAD_ARGUMENT with REFUSED, 0 otherwise. -/
def QueryCase.resultCode : QueryCase → Byte
  | .badArgument => 1
  | _ => 0

/-- R177: CLEAR_FAULTS: the fault map cleared, the FAILED flags cleared, every row refreshed with the notices once. -/
def clearAllFaults (s : State) : State :=
  let s1 := clearStrips (clearFaultMap s)
  planNotices (refreshRows (allRows s1) s1)

/-- R178: the twelve counters set to 0; the clash flag stays. -/
def zeroCounters (s : State) : State := s.withLink { s.link with counters := Counters.zero }

/-- R167 step 2: the action of a query. -/
def queryAction (c : QueryCase) (s : State) : State :=
  match c with
  | .flatten => flattenPage s
  | .clearFaults => clearAllFaults s
  | .clearCounters => zeroCounters s
  | _ => s

/-- R168: the data of a reply, from the state that stands after the action. -/
def queryData (c : QueryCase) (s : State) : List Byte :=
  match c with
  | .summary => summaryData s
  | .counters => countersData s
  | .digestShown => digestData s s.shown
  | .digestTarget => digestData s s.page.target
  | .faultsFrom start => faultsData s start
  | .identify => identifyData s
  | _ => []

/-- R169: the reply to a query. -/
def replyTo (tag kind : Byte) (c : QueryCase) (s : State) : Reply :=
  { tag := tag, outcome := c.outcome, kind := kind, code := c.resultCode, data := queryData c s }

/-- R167: a query taken: classified, its action made, the reply built from the state that stands then, and queued. -/
def answerQuery (tag kind : Byte) (arg : List Byte) (s : State) : State :=
  let c := classify kind arg
  let s1 := queryAction c s
  enqueueReply (replyTo tag kind c s1) s1

/-- R167: a QUERY delivered to the query responder: taken when its target is the tile's station. -/
def takeQuery (target tag kind : Byte) (arg : List Byte) (s : State) : State :=
  if station s = some target then answerQuery tag kind arg s else s

end Sys2Proof.Machine
end

