-- ==== Sys2Proof/Machine/StoredSettings.lean ====
section
/-!
DEFINITION. The settings memory: the records read from it (R184), the values that stand for each item (R185), and the
settings put in force (R186, R3, R11).
-/

namespace Sys2Proof.Machine

/-- A byte of the settings memory; one that is not fitted or does not answer reads as all ones (R184). -/
def memoryByte (memory : List Byte) (i : Nat) : Byte := memory.getD i 0xFF#8

/-- R184: the records from record `k` on, at most `fuel` of them, each an item code with its value; reading stops at
an item code 0x00. -/
def readRecords (memory : List Byte) : Nat → Nat → List (Byte × Nat)
  | 0, _ => []
  | fuel + 1, k =>
    let item := memoryByte memory (3 * k + 1)
    if item = 0 then []
    else
      (item, (memoryByte memory (3 * k + 2)).toNat * 256 + (memoryByte memory (3 * k + 3)).toNat) ::
        readRecords memory fuel (k + 1)

/-- R184: the configuration source: STORE when byte 0 is the signature 0xA7. -/
def memorySource (memory : List Byte) : Source := if memoryByte memory 0 = 0xA7 then .store else .defaults

/-- R184: the records of the settings memory, at most 32; none without the signature. -/
def memoryRecords (memory : List Byte) : List (Byte × Nat) :=
  match memorySource memory with
  | .store => readRecords memory 32 0
  | .defaults => []

/-- R185: the value standing for an item is that of the last record read with its code. -/
def standing (records : List (Byte × Nat)) (item : Byte) : Option Nat :=
  (records.reverse.find? (fun r => r.1 == item)).map (·.2)

/-- R186 step 1: a value outside its range is replaced by the nearer bound. -/
def clamp (lo hi v : Nat) : Nat := if v < lo then lo else if hi < v then hi else v

/-- R186 step 1: an item's value after clamping, or its default (R185). -/
def itemValue (records : List (Byte × Nat)) (item : Byte) (lo hi default : Nat) : Nat :=
  match standing records item with
  | none => default
  | some v => clamp lo hi v

/-- R186 step 1: clamping changes the item's value. -/
def itemClamped (records : List (Byte × Nat)) (item : Byte) (lo hi : Nat) : Bool :=
  match standing records item with
  | none => false
  | some v => clamp lo hi v != v

/-- R186 step 3: the status cell's designation, judged against the rectangle in force. -/
def statusCellValue (records : List (Byte × Nat)) (lineCount cellCount : Nat) : Option (Nat × Nat) :=
  match standing records 0x08 with
  | none => none
  | some v =>
    if v = 0xFFFF then none
    else if v / 256 < lineCount ∧ v % 256 < cellCount then some (v / 256, v % 256)
    else none

/-- R186 step 3: a designation outside the rectangle has become none. -/
def statusCellRefused (records : List (Byte × Nat)) (lineCount cellCount : Nat) : Bool :=
  match standing records 0x08 with
  | none => false
  | some v => v != 0xFFFF && !(decide (v / 256 < lineCount) && decide (v % 256 < cellCount))

/-- R186: the settings put in force from the straps and the settings memory. -/
def settingsOf (straps : BitVec 5) (memory : List Byte) : Settings :=
  let r := memoryRecords memory
  let firstLine := itemValue r 0x02 0 31 0
  let firstCell := itemValue r 0x04 0 63 0
  let lines := min (itemValue r 0x03 1 6 6) (32 - firstLine)
  let cells := min (itemValue r 0x05 1 10 10) (64 - firstCell)
  { station := BitVec.ofNat 8 (itemValue r 0x01 0 31 straps.toNat)
    firstLine := firstLine
    lineCount := lines
    firstCell := firstCell
    cellCount := cells
    tileCount := itemValue r 0x06 1 16 16
    railLimit := itemValue r 0x07 600 24000 3000
    holdLimit := itemValue r 0x09 5 60 20
    statusCell := statusCellValue r lines cells
    source := memorySource memory }

/-- R186: the configuration-adjusted flag, set by each step that changes a value. -/
def settingsAdjusted (memory : List Byte) : Bool :=
  let r := memoryRecords memory
  let firstLine := itemValue r 0x02 0 31 0
  let firstCell := itemValue r 0x04 0 63 0
  let lines := itemValue r 0x03 1 6 6
  let cells := itemValue r 0x05 1 10 10
  itemClamped r 0x01 0 31 || itemClamped r 0x02 0 31 || itemClamped r 0x03 1 6 || itemClamped r 0x04 0 63 ||
    itemClamped r 0x05 1 10 || itemClamped r 0x06 1 16 || itemClamped r 0x07 600 24000 || itemClamped r 0x09 5 60 ||
    decide (32 - firstLine < lines) || decide (64 - firstCell < cells) ||
    statusCellRefused r (min lines (32 - firstLine)) (min cells (64 - firstCell))

end Sys2Proof.Machine
end

