-- ==== Sys2Proof/Machine/Ops.lean ====
section
/-!
DEFINITION. The operations of the whole tile: power-on, the life states, RESET frames, the delivery of frames, and the
passing of time.
-/

namespace Sys2Proof.Machine

/-- R182: while RSTN is held low the part is stopped, so a command changes nothing. -/
def whenRunning (s : State) (f : State → State) : Host.Outcome State Fault Refusal :=
  .next (if s.resetHeld then s else f s)

/-! ### Start-up -/

/-- R182, R183: every block at its power-on value, with the straps as read; the command queue and the count of free
values drawn are the model's own and stay. -/
def powerOn (straps : BitVec 5) (s : State) : State :=
  let z := State.reset
  ((z.withStart { z.start with straps := straps }).withPending s.pending).withDraws s.draws

/-- R182: RSTN held low: the part is stopped, its drivers released and its timers stopped (log 3). -/
def holdReset (s : State) : State := (powerOn State.reset.start.straps s).withHeld true

/-- R141, R143: a strip's first reading at the end of CONFIG: presence begins at once where it is present. -/
def firstReading (present : Bool) : LineGuard :=
  if present then LineGuard.presenceBegins LineGuard.initial else LineGuard.initial

/-- R186: the settings put in force and handed to the blocks: the images and the fault map take their size (R9, R82),
the strips are sampled (R141), and the life state becomes SCAN. -/
def endConfig (memory : List Byte) (strips : BitVec 6) (s : State) : State :=
  let c := settingsOf s.start.straps memory
  let cells := c.lineCount * c.cellCount
  ((((s.withStart { s.start with settings := some c, adjusted := settingsAdjusted memory, life := .scan }).withPage
    { s.page with staging := blankImage cells, target := blankImage cells }).withShown (blankImage cells)).withPlan
    { s.plan with faults := List.replicate (8 * cells) .ok }).withTouch
    { s.touch with lines := (List.range c.lineCount).map (fun l => firstReading (strips.getLsbD l)) }

/-- R187: SHOWN as the initial scan senses it, every row within the one event SCAN_COMPLETE: the matrix drives show no
selection of a row meanwhile (R7; DESIGN CHOICE, log 23). -/
def scanImage (sensed : Vector PinSet 24) (s : State) : State :=
  (allRows s).foldl (fun t r => senseRow r (sensed[r]?.getD 0#20) t) s

/-- R188: the entry into LISTENING, from SCAN or after a LINK reset. -/
def enterListening (s : State) : State :=
  let s1 := (s.withStart { s.start with life := .listening, joinTimer := some 0 }).withTouch
    { s.touch with driftTimer := none }
  let s2 := s1.withBank { s1.bank with railTimer := some (s1.bank.railTimer.getD 0) }
  let s3 := s2.withRail { s2.rail with refreshTimer := some 0 }
  lookForRow (recomputeAllowance (enqueueAnnounce .draw s3))

/-- R187: the last row has been sensed: TARGET a copy of SHOWN, the status rows refreshed (R67), then LISTENING. -/
def finishScan (sensed : Vector PinSet 24) (s : State) : State :=
  let s1 := scanImage sensed s
  let s2 := s1.withPage { s1.page with target := s1.shown }
  enterListening (planNotices (refreshRows (statusRows s2) s2))

/-- R189: the entry into JOINED. -/
def enterJoined (s : State) : State :=
  let s1 := s.withStart { s.start with life := .joined, joinTimer := none }
  startDrift (judgeRise (recomputeAllowance (tryContend s1)))

/-! ### RESET frames -/

/-- R138: the rail share at a LINK reset, steps 1 and 2: the view emptied with its notice, the applied allowance 0 and a
pending rise cancelled. -/
def resetRailShare (s : State) : State :=
  let s1 := recomputePattern (s.withRail { s.rail with view := [] })
  s1.withRail { s1.rail with applied := 0, rise := none }

/-- R192: a RESET frame of scope LINK acted on: the page reset, then the effects on the link controller, the rail share,
the charge bank and the touch guard, then the entry into LISTENING (R188). -/
def linkReset (s : State) : State :=
  let s1 := resetRailShare (resetLinkControl (pageReset s))
  let s2 := s1.withBank { s1.bank with lastAnnounced := 0 }
  enterListening (s2.withTouch { s2.touch with rotation := 0 })

/-- R190: a RESET delivered to the start-up logic: acted on when its target is the tile's station or 255. -/
def takeReset (target scope : Byte) (s : State) : State :=
  if station s = some target ∨ target = 255 then
    if scope = 0 then pageReset s else linkReset s
  else s

/-! ### Receiving -/

/-- R23: a good frame that is no clash, delivered by its kind. -/
def deliver (sender : Byte) (b : Body) (s : State) : State :=
  match b with
  | .page serial mode => takePage serial mode s
  | .content serial seq line first cells => takeContent serial seq line first cells s
  | .turn serial total => takeTurn serial total s
  | .settled serial outcome _ => takeSettled sender serial outcome s
  | .draw demand _ _ _ _ _ serial outcome => takeDraw sender demand serial outcome s
  | .query target tag kind arg => if s.start.life = .joined then takeQuery target tag kind arg s else s
  | .reply .. => s
  | .reset target scope => takeReset target scope s

/-- R22: a clash. -/
def noteClash (s : State) : State := count .clashes (s.withLink { s.link with clash := true })

/-- R22, R23: a good frame: a clash when it bears the tile's own station number, delivered otherwise. -/
def acceptFrame (sender : Byte) (b : Body) (s : State) : State :=
  if station s = some sender then noteClash s else deliver sender b s

/-- R20: what becomes of a frame by its verdict. -/
def actOnVerdict (v : Verdict) (s : State) : State :=
  match v with
  | .crcError => count .crcErrors s
  | .malformed => count .malformed s
  | .unknownKind => count .unknownKind s
  | .good sender b => acceptFrame sender b s

/-- R17, R20: the verdict on a frame whose characters, check, length and kind are right, from its sender and body. -/
def judgeParsed (sender : Byte) (b : Body) : Verdict :=
  if 31 < sender.toNat then .malformed else if bodyOk b then .good sender b else .malformed

/-- R19: a frame whose end is heard: the line was busy until now (R24); in CONFIG and SCAN it is dropped, in LISTENING
and JOINED it is dealt with. -/
def hearFrame (f : State → State) (s : State) : State :=
  if onTheLink s then f (lineBusy s) else lineBusy s

/-- A frame of another station, given by its sender and body. -/
def receiveBody (sender : Byte) (b : Body) (s : State) : State := hearFrame (actOnVerdict (judgeParsed sender b)) s

/-- R20, R21: a frame given by its readings on the line; the tile's own frame is neither checked, counted nor
delivered. -/
def receiveHeard (h : Heard) (s : State) : State :=
  if h.own then s else hearFrame (actOnVerdict (judgeFrame h.broken h.chars)) s

/-! ### Time -/

/-- R142: a line's filters (30 ms, 200 ms) and presence timer (600 s) after 1 ms. -/
def LineGuard.tick (g : LineGuard) : LineGuard :=
  { g with arrival := Timer.tick arrivalPeriod g.arrival, departure := Timer.tick departurePeriod g.departure,
           presence := Timer.tick presencePeriod g.presence }

/-- R131: a pending rise's settle timer (20 ms) after 1 ms. -/
def Rise.tick (r : Rise) : Rise :=
  match r.phase with
  | .held => r
  | .settling n => { r with phase := .settling (min (n + 1) settlePeriod) }

/-- R148: the accumulated hold time after 1 ms. -/
def holdTick (s : State) : Nat :=
  if s.touch.holdPhase = .running then min (s.touch.holdTime + 1) (holdLimitMs s) else s.touch.holdTime

/-- 1 ms passes (log 4): every running timer counts on, up to its period; the expiry itself is a command. -/
def passTime (s : State) : State :=
  ((((s.withStart { s.start with joinTimer := Timer.tick joinPeriod s.start.joinTimer }).withPipe
    { s.pipe with stepTimer := Timer.tick stepPeriod s.pipe.stepTimer }).withBank
    { s.bank with railTimer := Timer.tick railPeriod s.bank.railTimer }).withRail
    { s.rail with
      refreshTimer := Timer.tick refreshPeriod s.rail.refreshTimer
      rise := s.rail.rise.map Rise.tick
      view := s.rail.view.map (fun e => { e with remaining := e.remaining - 1 }) }).withTouch
    { s.touch with
      lines := s.touch.lines.map LineGuard.tick
      holdTime := holdTick s
      driftTimer := Timer.tick driftPeriod s.touch.driftTimer }

/-- The block with no command waiting: 1 ms passes, unless RSTN is held low (R182). -/
def idle (s : State) : State := if s.resetHeld then s else passTime s

end Sys2Proof.Machine
end

