-- ==== Sys2Proof/Machine/FrameCommands.lean ====
section
/-!
DEFINITION. The frames heard from other stations, but for queries and RESET frames: discarded frames (R20), page frames
(R41 to R53), announcements (R121, R122) and replies (R23).
-/

namespace Sys2Proof.Machine

/-- DISCARDED_FRAME (R15, R19 to R21): a frame given by the line's readings. -/
def execDiscardedFrame (heard : Heard) (s : State) : Host.Outcome State Fault Refusal :=
  whenRunning s (receiveHeard heard)

/-- PAGE (R41 to R43). -/
def execPage (sender : Byte) (serial : Half) (mode : Byte) (s : State) : Host.Outcome State Fault Refusal :=
  whenRunning s (receiveBody sender (.page serial mode))

/-- CONTENT (R44 to R47, R13). -/
def execContent (sender : Byte) (serial seq : Half) (line first : Byte) (cells : List Byte) (s : State) :
    Host.Outcome State Fault Refusal :=
  whenRunning s (receiveBody sender (.content serial seq line first cells))

/-- TURN (R48 to R53). -/
def execTurn (sender : Byte) (serial total : Half) (s : State) : Host.Outcome State Fault Refusal :=
  whenRunning s (receiveBody sender (.turn serial total))

/-- SETTLED (R122). -/
def execSettled (sender : Byte) (serial : Half) (outcome : Byte) (detail : Half) (s : State) :
    Host.Outcome State Fault Refusal :=
  whenRunning s (receiveBody sender (.settled serial outcome detail))

/-- DRAW (R121, R124). -/
def execDraw (sender demand firstLine lineCount firstCell cellCount pageState : Byte) (serial : Half) (outcome : Byte)
    (s : State) : Host.Outcome State Fault Refusal :=
  whenRunning s
    (receiveBody sender (.draw demand firstLine lineCount firstCell cellCount pageState serial outcome))

/-- REPLY (R23). -/
def execReply (sender tag outcome kind code : Byte) (data : List Byte) (s : State) :
    Host.Outcome State Fault Refusal :=
  whenRunning s (receiveBody sender (.reply tag outcome kind code data))

end Sys2Proof.Machine
end

