-- ==== Sys2Proof/Machine/LifeCommands.lean ====
section
/-!
DEFINITION. The commands of the tile's life: power, the reset pin, the life states and RESET frames
(11_start_up_and_stored_settings.md).
-/

namespace Sys2Proof.Machine

/-- POWER_ON (R182, R183). -/
def execPowerOn (straps : BitVec 5) (s : State) : Host.Outcome State Fault Refusal := .next (powerOn straps s)

/-- RESET_PIN_ASSERTED (R182). -/
def execResetPinAsserted (s : State) : Host.Outcome State Fault Refusal := .next (holdReset s)

/-- RESET_PIN_RELEASED (R182, R183).  R182 speaks only of a release after RSTN has been held low; that a release of a
pin that is not held powers the tile on afresh as well is the model's choice (DESIGN CHOICE, log 7). -/
def execResetPinReleased (straps : BitVec 5) (s : State) : Host.Outcome State Fault Refusal :=
  .next (powerOn straps s)

/-- END_OF_CONFIG (R184 to R186); it ends CONFIG and no other life state (R181). -/
def execEndOfConfig (memory : List Byte) (strips : BitVec 6) (s : State) : Host.Outcome State Fault Refusal :=
  whenRunning s (fun s => if s.start.life = .config then endConfig memory strips s else s)

/-- SCAN_COMPLETE (R187, R188); it ends SCAN and no other life state (R181). -/
def execScanComplete (sensed : Vector PinSet 24) (s : State) : Host.Outcome State Fault Refusal :=
  whenRunning s (fun s => if s.start.life = .scan then finishScan sensed s else s)

/-- JOIN_LISTEN_TIMER_EXPIRY (R189); a timer that is stopped, or that a LINK reset has restarted, does not expire. -/
def execJoinListenTimerExpiry (s : State) : Host.Outcome State Fault Refusal :=
  whenRunning s (fun s => if Timer.due joinPeriod s.start.joinTimer then enterJoined s else s)

/-- RESET_PAGE (R190, R191): a RESET frame of scope PAGE. -/
def execResetPage (sender target : Byte) (s : State) : Host.Outcome State Fault Refusal :=
  whenRunning s (receiveBody sender (.reset target 0))

/-- RESET_LINK (R190, R192): a RESET frame of scope LINK. -/
def execResetLink (sender target : Byte) (s : State) : Host.Outcome State Fault Refusal :=
  whenRunning s (receiveBody sender (.reset target 1))

/-- RESET_DISREGARDED (R190): a RESET frame; which target is disregarded is R190's test. -/
def execResetDisregarded (sender target scope : Byte) (s : State) : Host.Outcome State Fault Refusal :=
  whenRunning s (receiveBody sender (.reset target scope))

end Sys2Proof.Machine
end

