-- ==== Sys2Proof/Machine/LineCommands.lean ====
section
/-!
DEFINITION. The link controller's commands: contention, attempts, collisions and the line state (02_the_page_link.md).
An event that the link controller's state rules out (a slot without a wait, a completion without an attempt) changes
nothing.
-/

namespace Sys2Proof.Machine

/-- An event of an attempt that is being sent. -/
def whileSending (f : OnLine → State → State) (s : State) : State :=
  match s.link.onLine with
  | none => s
  | some o => if o.phase = .sending then f o s else s

/-- An event of an attempt that has collided and jams. -/
def whileJamming (f : OnLine → State → State) (s : State) : State :=
  match s.link.onLine with
  | none => s
  | some o => if o.phase = .jamming then f o s else s

/-- QUIET_GAP (R24). -/
def execQuietGap (s : State) : Host.Outcome State Fault Refusal := whenRunning s quietGapEnds

/-- SLOT_BEGINS (R25, R32). -/
def execSlotBegins (s : State) : Host.Outcome State Fault Refusal := whenRunning s beginAttempt

/-- DEFERRAL (R25). -/
def execDeferral (s : State) : Host.Outcome State Fault Refusal := whenRunning s lineBusy

/-- COLLISION (R27, R28). -/
def execCollision (s : State) : Host.Outcome State Fault Refusal := whenRunning s (whileSending collide)

/-- JAM_END (R27). -/
def execJamEnd (s : State) : Host.Outcome State Fault Refusal := whenRunning s (whileJamming endJam)

/-- ATTEMPT_COMPLETES (R29). -/
def execAttemptCompletes (s : State) : Host.Outcome State Fault Refusal :=
  whenRunning s (whileSending completeAttempt)

/-- LINK_UP (R33). -/
def execLinkUp (s : State) : Host.Outcome State Fault Refusal := whenRunning s lineComesUp

/-- LINK_DOWN (R33, R34). -/
def execLinkDown (s : State) : Host.Outcome State Fault Refusal := whenRunning s lineGoesDown

end Sys2Proof.Machine
end

