-- ==== Sys2Proof/Machine/QueryCommands.lean ====
section
/-!
DEFINITION. The queries (10_queries_and_replies.md).  Each is a QUERY frame of its kind with the argument bytes it
carries; an argument that R168 does not accept is answered REFUSED.
-/

namespace Sys2Proof.Machine

/-- STATUS_SUMMARY (R171): query kind 1. -/
def execStatusSummary (sender target tag : Byte) (arg : List Byte) (s : State) :
    Host.Outcome State Fault Refusal :=
  whenRunning s (receiveBody sender (.query target tag 1 arg))

/-- STATUS_COUNTERS (R172): query kind 1. -/
def execStatusCounters (sender target tag : Byte) (arg : List Byte) (s : State) :
    Host.Outcome State Fault Refusal :=
  whenRunning s (receiveBody sender (.query target tag 1 arg))

/-- DIGEST (R173): query kind 2. -/
def execDigest (sender target tag : Byte) (arg : List Byte) (s : State) : Host.Outcome State Fault Refusal :=
  whenRunning s (receiveBody sender (.query target tag 2 arg))

/-- FAULTS (R174): query kind 3. -/
def execFaults (sender target tag : Byte) (arg : List Byte) (s : State) : Host.Outcome State Fault Refusal :=
  whenRunning s (receiveBody sender (.query target tag 3 arg))

/-- FLATTEN (R176): query kind 4. -/
def execFlatten (sender target tag : Byte) (arg : List Byte) (s : State) : Host.Outcome State Fault Refusal :=
  whenRunning s (receiveBody sender (.query target tag 4 arg))

/-- CLEAR_FAULTS (R177): query kind 5. -/
def execClearFaults (sender target tag : Byte) (arg : List Byte) (s : State) : Host.Outcome State Fault Refusal :=
  whenRunning s (receiveBody sender (.query target tag 5 arg))

/-- IDENTIFY (R175): query kind 6. -/
def execIdentify (sender target tag : Byte) (arg : List Byte) (s : State) : Host.Outcome State Fault Refusal :=
  whenRunning s (receiveBody sender (.query target tag 6 arg))

/-- CLEAR_COUNTERS (R178): query kind 7. -/
def execClearCounters (sender target tag : Byte) (arg : List Byte) (s : State) :
    Host.Outcome State Fault Refusal :=
  whenRunning s (receiveBody sender (.query target tag 7 arg))

/-- UNKNOWN_QUERY (R168): a query kind 0 or 8 to 255. -/
def execUnknownQuery (sender target tag kind : Byte) (arg : List Byte) (s : State) :
    Host.Outcome State Fault Refusal :=
  whenRunning s (receiveBody sender (.query target tag kind arg))

/-- QUERY_DISREGARDED (R167, R23): a QUERY frame; what is not taken is the test of R167 and R23. -/
def execQueryDisregarded (sender target tag kind : Byte) (arg : List Byte) (s : State) :
    Host.Outcome State Fault Refusal :=
  whenRunning s (receiveBody sender (.query target tag kind arg))

end Sys2Proof.Machine
end

