-- ==== Sys2Proof/Machine/TimerCommands.lean ====
section
/-!
DEFINITION. The expiries of the pipeline's, the bank's and the rail share's timers.  A timer expires only once it has
reached its period: an expiry that was due does not take place when another event has stopped or restarted the timer
first, and then changes nothing (log 4).
-/

namespace Sys2Proof.Machine

/-- STEP_TIMER_EXPIRY (R93). -/
def execStepTimerExpiry (sensed : PinSet) (s : State) : Host.Outcome State Fault Refusal :=
  whenRunning s (stepExpires sensed)

/-- RAIL_PERIOD (R110). -/
def execRailPeriod (s : State) : Host.Outcome State Fault Refusal := whenRunning s railExpires

/-- R115: the DRAW refresh timer expires and runs on; a DRAW is queued whatever the demand. -/
def refreshExpires (s : State) : State :=
  if Timer.due refreshPeriod s.rail.refreshTimer then
    enqueueAnnounce .draw (s.withRail { s.rail with refreshTimer := some 0 })
  else s

/-- DRAW_REFRESH_TIMER_EXPIRY (R115). -/
def execDrawRefreshTimerExpiry (s : State) : Host.Outcome State Fault Refusal := whenRunning s refreshExpires

/-- R132: the settle timer of a pending rise has reached its period and expires; one that a recomputation has started
afresh, or whose rise it has cancelled, does not. -/
def riseExpires (s : State) : State :=
  match s.rail.rise with
  | none => s
  | some r =>
    match r.phase with
    | .held => s
    | .settling n => if settlePeriod ≤ n then s.withRail { s.rail with applied := r.target, rise := none } else s

/-- SETTLE_TIMER_EXPIRY (R132). -/
def execSettleTimerExpiry (s : State) : Host.Outcome State Fault Refusal := whenRunning s riseExpires

/-- ENTRY_EXPIRY (R123). -/
def execEntryExpiry (station : Byte) (s : State) : Host.Outcome State Fault Refusal :=
  whenRunning s (expireEntry station)

end Sys2Proof.Machine
end

