-- ==== Sys2Proof/Machine/TouchCommands.lean ====
section
/-!
DEFINITION. The touch guard's commands (08_touch_guard_and_drift_repair.md).  An event that the guard state rules out
changes nothing (R143), and a strip outside the rectangle gives no event (R8).
-/

namespace Sys2Proof.Machine

/-- PRESENCE_BEGINS (R143, R145). -/
def execPresenceBegins (strip : Fin 6) (s : State) : Host.Outcome State Fault Refusal :=
  whenRunning s (guardEvent strip.val LineGuard.presenceBegins)

/-- PRESENCE_ENDS (R143, R145). -/
def execPresenceEnds (strip : Fin 6) (s : State) : Host.Outcome State Fault Refusal :=
  whenRunning s (guardEvent strip.val LineGuard.presenceEnds)

/-- ARRIVAL_FILTER_EXPIRY (R143). -/
def execArrivalFilterExpiry (strip : Fin 6) (s : State) : Host.Outcome State Fault Refusal :=
  whenRunning s (guardEvent strip.val LineGuard.arrivalExpires)

/-- DEPARTURE_FILTER_EXPIRY (R143, R145). -/
def execDepartureFilterExpiry (strip : Fin 6) (s : State) : Host.Outcome State Fault Refusal :=
  whenRunning s (guardEvent strip.val LineGuard.departureExpires)

/-- PRESENCE_TIMER_EXPIRY (R146). -/
def execPresenceTimerExpiry (strip : Fin 6) (s : State) : Host.Outcome State Fault Refusal :=
  whenRunning s (stripFails strip.val)

/-- HOLD_LIMIT_EXPIRY (R150, R58). -/
def execHoldLimitExpiry (s : State) : Host.Outcome State Fault Refusal := whenRunning s holdExpires

/-- DRIFT_TIMER_EXPIRY (R152, R153). -/
def execDriftTimerExpiry (row0 row1 row2 row3 : PinSet) (s : State) : Host.Outcome State Fault Refusal :=
  whenRunning s (driftExpires row0 row1 row2 row3)

end Sys2Proof.Machine
end

