-- ==== Sys2Proof/Machine/Dispatch.lean ====
section
/-!
DEFINITION. The dispatch of the commands: one arm for each row of spec/opcode_table.json.
-/

namespace Sys2Proof.Machine

/-- A command's effect on everything but the queue of waiting commands. -/
def exec (i : Instr) (s : State) : Host.Outcome State Fault Refusal :=
  match i with
  | .powerOn straps => Sys2Proof.Machine.execPowerOn straps s
  | .resetPinAsserted => Sys2Proof.Machine.execResetPinAsserted s
  | .resetPinReleased straps => Sys2Proof.Machine.execResetPinReleased straps s
  | .endOfConfig memory strips => Sys2Proof.Machine.execEndOfConfig memory strips s
  | .scanComplete sensed => Sys2Proof.Machine.execScanComplete sensed s
  | .joinListenTimerExpiry => Sys2Proof.Machine.execJoinListenTimerExpiry s
  | .discardedFrame heard => Sys2Proof.Machine.execDiscardedFrame heard s
  | .page sender serial mode => Sys2Proof.Machine.execPage sender serial mode s
  | .content sender serial seq line first cells => Sys2Proof.Machine.execContent sender serial seq line first cells s
  | .turn sender serial total => Sys2Proof.Machine.execTurn sender serial total s
  | .settled sender serial outcome detail => Sys2Proof.Machine.execSettled sender serial outcome detail s
  | .draw sender demand firstLine lineCount firstCell cellCount pageState serial outcome => Sys2Proof.Machine.execDraw sender demand firstLine lineCount firstCell cellCount pageState serial outcome s
  | .reply sender tag outcome kind code data => Sys2Proof.Machine.execReply sender tag outcome kind code data s
  | .statusSummary sender target tag arg => Sys2Proof.Machine.execStatusSummary sender target tag arg s
  | .statusCounters sender target tag arg => Sys2Proof.Machine.execStatusCounters sender target tag arg s
  | .digest sender target tag arg => Sys2Proof.Machine.execDigest sender target tag arg s
  | .faults sender target tag arg => Sys2Proof.Machine.execFaults sender target tag arg s
  | .flatten sender target tag arg => Sys2Proof.Machine.execFlatten sender target tag arg s
  | .clearFaults sender target tag arg => Sys2Proof.Machine.execClearFaults sender target tag arg s
  | .identify sender target tag arg => Sys2Proof.Machine.execIdentify sender target tag arg s
  | .clearCounters sender target tag arg => Sys2Proof.Machine.execClearCounters sender target tag arg s
  | .unknownQuery sender target tag kind arg => Sys2Proof.Machine.execUnknownQuery sender target tag kind arg s
  | .resetPage sender target => Sys2Proof.Machine.execResetPage sender target s
  | .resetLink sender target => Sys2Proof.Machine.execResetLink sender target s
  | .quietGap => Sys2Proof.Machine.execQuietGap s
  | .slotBegins => Sys2Proof.Machine.execSlotBegins s
  | .deferral => Sys2Proof.Machine.execDeferral s
  | .collision => Sys2Proof.Machine.execCollision s
  | .jamEnd => Sys2Proof.Machine.execJamEnd s
  | .attemptCompletes => Sys2Proof.Machine.execAttemptCompletes s
  | .linkUp => Sys2Proof.Machine.execLinkUp s
  | .linkDown => Sys2Proof.Machine.execLinkDown s
  | .stepTimerExpiry sensed => Sys2Proof.Machine.execStepTimerExpiry sensed s
  | .railPeriod => Sys2Proof.Machine.execRailPeriod s
  | .drawRefreshTimerExpiry => Sys2Proof.Machine.execDrawRefreshTimerExpiry s
  | .settleTimerExpiry => Sys2Proof.Machine.execSettleTimerExpiry s
  | .entryExpiry station => Sys2Proof.Machine.execEntryExpiry station s
  | .presenceBegins strip => Sys2Proof.Machine.execPresenceBegins strip s
  | .presenceEnds strip => Sys2Proof.Machine.execPresenceEnds strip s
  | .arrivalFilterExpiry strip => Sys2Proof.Machine.execArrivalFilterExpiry strip s
  | .departureFilterExpiry strip => Sys2Proof.Machine.execDepartureFilterExpiry strip s
  | .presenceTimerExpiry strip => Sys2Proof.Machine.execPresenceTimerExpiry strip s
  | .holdLimitExpiry => Sys2Proof.Machine.execHoldLimitExpiry s
  | .driftTimerExpiry row0 row1 row2 row3 => Sys2Proof.Machine.execDriftTimerExpiry row0 row1 row2 row3 s
  | .queryDisregarded sender target tag kind arg => Sys2Proof.Machine.execQueryDisregarded sender target tag kind arg s
  | .resetDisregarded sender target scope => Sys2Proof.Machine.execResetDisregarded sender target scope s

end Sys2Proof.Machine
end

