-- ==== Sys2Proof/Machine/Step.lean ====
section
/-!
DEFINITION. One step of the tile: the command at the front of the queue is taken; with no command waiting, time passes.
-/

namespace Sys2Proof.Machine

/-- One step (log 4 for the empty queue). -/
def step (s : State) : Host.Outcome State Fault Refusal :=
  match s.pending with
  | [] => .next (idle s)
  | c :: rest => exec c (s.withPending rest)

/-- `s` with the command that a word spells put at the front of its queue; `s` itself where the word spells none. -/
def State.withFetchWord (s : State) (nbits w : Nat) : State :=
  match decodeTableWord nbits w with
  | none => s
  | some c => s.withPending (c :: s.pending)

end Sys2Proof.Machine
end

