-- ==== Sys2Proof/Safety.lean ====
section
/-!
DEFINITION. The terms in which claims about the tile are made: which blocks a command may change, and what a good state
is, block by block.
-/

namespace Sys2Proof.Machine

/-! ### Frames -/

/-- The parts of State. -/
inductive Block where
  | pending | held | start | link | page | plan | pipe | shown | bank | rail | touch | pattern | draws
  deriving DecidableEq, Repr

/-- `t` has the same block as `s`. -/
def State.same (b : Block) (s t : State) : Prop :=
  match b with
  | .pending => t.pending = s.pending
  | .held => t.resetHeld = s.resetHeld
  | .start => t.start = s.start
  | .link => t.link = s.link
  | .page => t.page = s.page
  | .plan => t.plan = s.plan
  | .pipe => t.pipe = s.pipe
  | .shown => t.shown = s.shown
  | .bank => t.bank = s.bank
  | .rail => t.rail = s.rail
  | .touch => t.touch = s.touch
  | .pattern => t.pattern = s.pattern
  | .draws => t.draws = s.draws

/-- Nothing but the listed blocks differs from `s` to `t`. -/
def Changes (bs : List Block) (s t : State) : Prop := ∀ b, b ∉ bs → State.same b s t

/-! ### When a frame or an event reaches the tile -/

/-- The part runs: RSTN is not held low (R182). -/
def Running (s : State) : Prop := s.resetHeld = false

/-- A frame of `sender` is taken through the receive checks and is no clash (R19, R20, R22). -/
def Hears (s : State) (sender : Byte) : Prop :=
  s.resetHeld = false ∧ onTheLink s = true ∧ sender.toNat ≤ 31 ∧ station s ≠ some sender

/-- The frame that a row of the opcode table stands for: its sender and body.  A DISCARDED_FRAME row carries the line's
readings in place of fields. -/
def frameOf : Instr → Option (Byte × Body)
  | .page sender serial mode => some (sender, .page serial mode)
  | .content sender serial seq line first cells => some (sender, .content serial seq line first cells)
  | .turn sender serial total => some (sender, .turn serial total)
  | .settled sender serial outcome detail => some (sender, .settled serial outcome detail)
  | .draw sender demand fl lc fc cc ps serial outcome => some (sender, .draw demand fl lc fc cc ps serial outcome)
  | .reply sender tag outcome kind code data => some (sender, .reply tag outcome kind code data)
  | .statusSummary sender target tag arg => some (sender, .query target tag 1 arg)
  | .statusCounters sender target tag arg => some (sender, .query target tag 1 arg)
  | .digest sender target tag arg => some (sender, .query target tag 2 arg)
  | .faults sender target tag arg => some (sender, .query target tag 3 arg)
  | .flatten sender target tag arg => some (sender, .query target tag 4 arg)
  | .clearFaults sender target tag arg => some (sender, .query target tag 5 arg)
  | .identify sender target tag arg => some (sender, .query target tag 6 arg)
  | .clearCounters sender target tag arg => some (sender, .query target tag 7 arg)
  | .unknownQuery sender target tag kind arg => some (sender, .query target tag kind arg)
  | .queryDisregarded sender target tag kind arg => some (sender, .query target tag kind arg)
  | .resetPage sender target => some (sender, .reset target 0)
  | .resetLink sender target => some (sender, .reset target 1)
  | .resetDisregarded sender target scope => some (sender, .reset target scope)
  | .powerOn _ | .resetPinAsserted | .resetPinReleased _ | .endOfConfig _ _ | .scanComplete _
  | .joinListenTimerExpiry | .discardedFrame _ | .quietGap | .slotBegins | .deferral | .collision | .jamEnd
  | .attemptCompletes | .linkUp | .linkDown | .stepTimerExpiry _ | .railPeriod | .drawRefreshTimerExpiry
  | .settleTimerExpiry | .entryExpiry _ | .presenceBegins _ | .presenceEnds _ | .arrivalFilterExpiry _
  | .departureFilterExpiry _ | .presenceTimerExpiry _ | .holdLimitExpiry | .driftTimerExpiry _ _ _ _ => none

/-- R17: the column "malformed if" of the frame table, on the bytes of a body: a body of kind `kind` with these `n`
bytes is malformed. -/
def malformedBody (kind : Nat) (bytes : List Byte) : Prop :=
  let n := bytes.length
  let byte (i : Nat) : Nat := (bytes.getD i 0).toNat
  let half (i : Nat) : Nat := 256 * byte i + byte (i + 1)
  match kind with
  | 1 => n ≠ 3 ∨ half 0 = 0 ∨ 1 < byte 2
  | 2 => n < 7 ∨ 46 < n ∨ half 0 = 0 ∨ 4095 < half 2 ∨ 31 < byte 4 ∨ 63 < byte 5 ∨ 64 < byte 5 + (n - 6)
  | 3 => n ≠ 4 ∨ half 0 = 0 ∨ 4096 < half 2
  | 4 => n ≠ 5 ∨ byte 2 = 0 ∨ 4 < byte 2
  | 5 => n ≠ 9 ∨ 12 < byte 0
  | 6 => n < 3 ∨ 7 < n
  | 7 => n < 4 ∨ 44 < n
  | 8 => n ≠ 2 ∨ 1 < byte 1 ∨ (32 ≤ byte 0 ∧ byte 0 ≤ 254)
  | _ => False

/-- The link controller's state once a frame of another station has been heard to its end: the line has been busy
(R24), so a backoff wait was given up (R25). -/
def busyLink (s : State) : Link := { s.link with quiet := false, wait := none }

/-- R30, R26: the link controller with a REPLY joined to the tail of its queue, or dropped. -/
def linkWithReply (r : Reply) (l : Link) : Link :=
  if queueLimit ≤ l.queue.length then { l with counters := l.counters.inc .repliesDropped }
  else if l.queue = [] then { l with queue := [.reply r], attempt := 1, window := 8 }
  else { l with queue := l.queue ++ [.reply r] }

/-- R24, R25, R31: what contention makes of a link controller: a head frame that is ready on a quiet line without a wait
draws a slot below the window (log 1), and otherwise nothing happens. -/
def Contended (l : Link) (s t : State) : Prop :=
  if s.start.life = .joined ∧ l.lineUp = true ∧ l.onLine = none ∧ l.queue ≠ [] ∧ l.quiet = true ∧ l.wait = none then
    t.link = { l with wait := some (Config.slotDraw s.draws % l.window) } ∧ t.draws = s.draws + 1
  else t.link = l ∧ t.draws = s.draws

/-- R32: a body is of the kind of a queued frame: a REPLY's fields, or a DRAW (kind 5) or SETTLED (kind 4). -/
def bodyOfFrame (f : QFrame) (b : Body) : Prop :=
  match f with
  | .reply r => b = .reply r.tag r.outcome r.kind r.code r.data
  | .announce .draw _ => Body.kindCode b = 5
  | .announce .settled _ => Body.kindCode b = 4

/-- A SETTLED, or a DRAW, stands in the transmit queue. -/
def Queued (k : Announce) (s : State) : Prop := s.link.queue.any (QFrame.isAnnounce k) = true

/-- R30, R26, R24: what queueing an announcement of a kind makes of the link controller.  With one of its kind queued:
being sent, its renewal mark is set; jamming, the new frame takes its place (R37: which is then no frame from before a
LINK reset); elsewhere, it takes its place with position and backoff.  With none queued it joins the tail, room being
made in a full queue by removing the oldest REPLY not on the line, whose wait is given up if it was the head; a new head
frame that is ready contends on a quiet line (log 1). -/
def AnnounceQueued (k : Announce) (s t : State) : Prop :=
  Queued k t ∧
  if s.link.queue.any (QFrame.isAnnounce k) = true then
    t.link = { s.link with queue := t.link.queue, onLine := t.link.onLine } ∧ t.draws = s.draws ∧
    (∀ o f q, s.link.onLine = some o → o.holdsHead = true → s.link.queue = f :: q → QFrame.isAnnounce k f = true →
      (o.phase = .sending → t.link.queue = .announce k true :: q ∧ t.link.onLine = some o) ∧
      (o.phase = .jamming → t.link.queue = s.link.queue ∧ t.link.onLine = some { o with preReset := false })) ∧
    ((∀ o f q, s.link.onLine = some o → s.link.queue = f :: q → o.holdsHead = true → QFrame.isAnnounce k f = false) →
      t.link = s.link)
  else if s.link.queue.length < 6 then
    Contended { s.link with
      queue := s.link.queue ++ [.announce k false]
      attempt := if s.link.queue = [] then 1 else s.link.attempt
      window := if s.link.queue = [] then 8 else s.link.window } s t
  else
    ∃ pre r post, s.link.queue = pre ++ .reply r :: post ∧
      (∀ i f, pre[i]? = some f → QFrame.isReply f = true → i = 0 ∧ s.link.headOnLine = true) ∧
      (pre = [] → s.link.headOnLine = false) ∧
      Contended { s.link with
        queue := pre ++ post ++ [.announce k false]
        counters := s.link.counters.inc .repliesDropped
        attempt := if pre = [] then 1 else s.link.attempt
        window := if pre = [] then 8 else s.link.window
        wait := if pre = [] then none else s.link.wait } s t

/-- A QUERY of `sender` to `target` is taken (R23, R167). -/
def TakesQuery (s : State) (sender target : Byte) : Prop :=
  Hears s sender ∧ s.start.life = .joined ∧ station s = some target

/-! ### What a plan operation and a look for a row leave -/

/-- R71: the job that a rebuild gives tile row `r`: its diff at attempt 1, or none. -/
def freshJob (s : State) (r : Nat) : Option Job :=
  if (diff s r).isEmpty then none
  else some { moves := diff s r, attempt := 1, level := baseLevel s r (diff s r) }

/-- R73: the job that a refresh gives tile row `r`, by the diff that stands after the event (`t`) and the job that the
event found (`s`): none for an empty diff, else the diff, at the old job's attempt where it lies within that job and at
attempt 1 otherwise. -/
def refreshedJob (s t : State) (r : Nat) : Option Job :=
  if (diff t r).isEmpty then none
  else
    let attempt :=
      match jobAt s r with
      | none => 1
      | some old => if (diff t r).within old.moves then old.attempt else 1
    some { moves := diff t r, attempt := attempt, level := levelAt (baseLevel t r (diff t r)) attempt }

/-- R67: the plan holds the diffs of the status rows and no other job. -/
def OnlyStatusJobs (s : State) : Prop :=
  ∀ r, jobAt s r = if r ∈ statusRows s then freshJob s r else none

/-- A slot with an unfired row taken out (R102). -/
def keepFired (slot : Option Slot) : Option Slot := slot.filter (·.fired)

/-- R102: the row pipeline with its unfired rows gone and its engine FENCED. -/
def fenced (p : Pipeline) : Pipeline :=
  { p with engine := .fenced, load := keepFired p.load, strike := keepFired p.strike }

/-- R92: every job of the plan waits on a closed line. -/
def NoRowEligible (s : State) : Prop := ∀ r, (jobAt s r).isSome = true → lineClosed s (r / 4) = true

/-- R91, R92: an IDLE engine with empty slots has started: RUNNING, its step timer at 0, and the lowest row with a job
on an open line in LOAD. -/
def EngineStarted (s t : State) : Prop :=
  ∃ r j, t.pipe = { s.pipe with engine := .running, stepTimer := some 0, load := some (snapshot r j) } ∧
    jobAt t r = some j ∧ lineClosed t (r / 4) = false ∧
    ∀ r' < r, (jobAt t r').isSome = true → lineClosed t (r' / 4) = true

/-- R92: what a look for an eligible row makes of the row pipeline, `t` standing after it. -/
def LookedForRow (s t : State) : Prop := (t.pipe = s.pipe ∧ NoRowEligible t) ∨ EngineStarted s t

/-- R149: the hold condition judged against the plan and the lines that stand after the event. -/
def HoldJudged (s t : State) : Prop :=
  t.touch.holdPhase =
    match s.touch.holdPhase with
    | .running => if holdCondition t then .running else .paused
    | .paused => if holdCondition t then .running else .paused
    | .inactive => .inactive
    | .expired => .expired

/-- R66, R92, R105, R149: the notices of a plan operation, or of a line that opens, to the row pipeline and the touch
guard: on the link an IDLE engine looks for a row and its start stops the drift timer; the hold condition is judged; and
nothing else of the two blocks changes. -/
def HandedOn (s t : State) : Prop :=
  (if s.pipe.engine = .idle ∧ onTheLink s = true then LookedForRow s t else t.pipe = s.pipe) ∧ HoldJudged s t ∧
    t.touch = { s.touch with
      holdPhase := t.touch.holdPhase
      driftTimer := if t.pipe.engine = s.pipe.engine then s.touch.driftTimer else none }

/-! ### What a turn and a settle leave -/

/-- R56: the plan was empty under a pattern: the status rows' diffs were empty under it, and no other row has a job. -/
def PlanEmptyUnder (p : Pattern) (t : State) : Prop :=
  ∀ r, if r ∈ statusRows t then (diff (t.withPattern p) r).isEmpty = true else jobAt t r = none

/-- R55, R57: a WORKING page has settled under a pattern: the detail is the number of STUCK pins off TARGET_eff, the
outcome is DONE for 0 and DONE_FAULTS otherwise, and both are recorded and announced. -/
def Settles (p : Pattern) (s t : State) : Prop :=
  ∃ n, n = stuckOffCount (t.withPattern p) ∧ s.page.state = .working ∧
    t.page = { s.page with
      state := .settled, outcome := settleOutcome n, detail := n, record := ⟨s.page.turned, settleOutcome n, n⟩ } ∧
    t.link = (enqueueAnnounce .settled s).link ∧ t.draws = (enqueueAnnounce .settled s).draws

/-- R56: the page is left as it is, which a WORKING page is only while the plan holds a job or the engine is not IDLE.
-/
def NotSettled (s t : State) : Prop :=
  t.page = s.page ∧ t.link = s.link ∧ t.draws = s.draws ∧
    (s.page.state = .working → t.pipe.engine = .idle → planEmpty t = false)

/-- R49, R59, R102: the row pipeline after a turn or FLATTEN, by the engine state the event found. -/
def PipelineAfterTurn (s t : State) : Prop :=
  match s.pipe.engine with
  | .running => t.pipe = fenced s.pipe
  | .fenced => t.pipe = s.pipe
  | .idle => LookedForRow s t

/-- The pattern that a turn or FLATTEN works out, before its settle check (R49, R161). -/
def turnPattern (t : State) : Pattern := patternOf (t.withPage { t.page with state := .working, outcome := .none })

/-- R49, R56, R57, R59: the page state after a turn or FLATTEN: WORKING with outcome NONE, or, only on an IDLE engine
with an empty plan, settled at once, the detail the number of STUCK pins off TARGET_eff, announced and queued. -/
def PageAfterTurn (s t : State) : Prop :=
  (t.page.state = .working ∧ t.page.outcome = .none ∧ t.page.detail = 0 ∧ t.page.record = s.page.record ∧
      t.link = busyLink s ∧ (t.pipe.engine = .idle → planEmpty t = false)) ∨
    (s.pipe.engine = .idle ∧ PlanEmptyUnder (turnPattern t) t ∧ t.page.state = .settled ∧
      t.page.detail = stuckOffCount (t.withPattern (turnPattern t)) ∧
      t.page.outcome = settleOutcome t.page.detail ∧
      t.page.record = ⟨t.page.turned, t.page.outcome, t.page.detail⟩ ∧
      t.link = (enqueueAnnounce .settled (lineBusy s)).link)

/-- R49, R59: what a turn and a FLATTEN have in common, but for the images, the serials and the reply. -/
def WorkStarted (s t : State) : Prop :=
  (∀ r < rowCount s, jobAt t r = freshJob t r) ∧ t.plan.faults = s.plan.faults ∧ t.page.heldMark = false ∧
    t.touch.holdTime = 0 ∧ t.touch.holdPhase = (if holdCondition t then .running else .paused) ∧
    t.touch.lines = s.touch.lines ∧ t.touch.rotation = s.touch.rotation ∧
    t.touch.driftTimer = (if t.pipe.engine = .running then none else s.touch.driftTimer) ∧ t.pattern = patternOf t ∧
    PipelineAfterTurn s t

/-- R161, R162, R74, R56: the pattern worked out from `s`, the state with the event's inputs changed, to `t`.  Where
it changes on a tile with a status cell, the four status rows are refreshed under it, the notices given, and the page
settles if that leaves a WORKING page with an IDLE engine and no job; a settle works the pattern out again, the status
rows then starting from no job.  Elsewhere nothing but the pattern changes. -/
def PatternWorkedOut (s t : State) : Prop :=
  t.pattern = patternOf t ∧ t.plan.faults = s.plan.faults ∧
    if patternOf s = s.pattern ∨ statusRows s = [] then
      t.page = s.page ∧ t.plan = s.plan ∧ t.pipe = s.pipe ∧ t.touch = s.touch ∧ t.link = s.link ∧ t.draws = s.draws
    else
      HandedOn s t ∧
        ((NotSettled s t ∧ ∀ r, jobAt t r = if r ∈ statusRows s then refreshedJob s t r else jobAt s r) ∨
          (Settles (patternOf s) s t ∧ s.pipe.engine = .idle ∧ PlanEmptyUnder (patternOf s) t ∧
            ∀ r, jobAt t r = if r ∈ statusRows s then freshJob t r else none))

/-- R54, R62, R67, R88, R135, R137, R151: a tile on which no work has begun: no page turned, the plan and the pipeline
empty, the applied allowance 0 without a pending rise, and neither the step timer nor the drift timer running. -/
def NoWorkYet (s : State) : Prop :=
  s.page.state = .idle ∧ s.page.turned = 0 ∧ s.pattern = .blank ∧ planEmpty s = true ∧ s.pipe.engine = .idle ∧
    slotsEmpty s = true ∧ s.pipe.stepTimer = none ∧ s.touch.driftTimer = none ∧ s.rail.applied = 0 ∧
    s.rail.rise = none

/-- R187: the tile at the end of the initial scan. -/
def ScanReady (s : State) : Prop := s.start.life = .scan ∧ NoWorkYet s

/-- R90: tile row `r` waits for an empty LOAD: it has a job, is not in flight, and its line is open. -/
def Waits (s : State) (r : Nat) : Prop :=
  (jobAt s r).isSome = true ∧ slotHas s.pipe.load r = false ∧ slotHas s.pipe.strike r = false ∧
    slotHas s.pipe.settle r = false ∧ slotHas s.pipe.sense r = false ∧ lineClosed s (r / 4) = false

/-- R90, R91, R93: the row pipeline after an admission: LOAD holds the snapshot of the lowest row that waited, or is
empty and no row waits. -/
def Admitted (t : State) : Prop :=
  match t.pipe.load with
  | none => ∀ r, ¬ Waits t r
  | some x => lineClosed t (x.row / 4) = false ∧ (jobAt t x.row).map (snapshot x.row) = some x ∧ ∀ r < x.row, ¬ Waits t r

/-! ### What a computation of the allowance leaves -/

/-- R131, R133, R134: the applied allowance and the pending rise after a computation whose result stands in `t`: a
result not above the applied allowance is applied at once and cancels the rise; a higher one keeps a rise of the same
target, whose hold is released when the tile is JOINED and the line is down or its awaited demand has been announced;
any other sets a rise awaiting own demand, held while LISTENING or while own demand is above the last announced one on
a line that is up. -/
def AllowanceApplied (s t : State) : Prop :=
  t.rail.applied = min s.rail.applied t.rail.computed ∧
    if t.rail.computed ≤ s.rail.applied then t.rail.rise = none
    else
      let fresh : Rise :=
        { target := t.rail.computed, awaited := t.bank.demand
          phase := if t.start.life = .listening ∨ (t.bank.lastAnnounced < t.bank.demand ∧ t.link.lineUp = true) then
            .held else .settling 0 }
      match s.rail.rise with
      | none => t.rail.rise = some fresh
      | some r =>
        if r.target ≠ t.rail.computed then t.rail.rise = some fresh
        else if r.phase = .held ∧ t.start.life = .joined ∧
            (t.link.lineUp = false ∨ r.awaited ≤ t.bank.lastAnnounced) then
          t.rail.rise = some { r with phase := .settling 0 }
        else t.rail.rise = some r

/-- R130, R131: the allowance recomputed with some settings on the link, the view and the refresh timer left alone. -/
def AllowanceRecomputed (c : Settings) (s t : State) : Prop :=
  t.rail.view = s.rail.view ∧ t.rail.refreshTimer = s.rail.refreshTimer ∧
    t.rail.computed = computeAllowance c t.bank.demand t.rail.view t.link.lineUp ∧ AllowanceApplied s t

/-- R113, R114, R130: own demand follows a bank charge that has changed (`s`): a change of demand queues a DRAW unless
it is the last announced demand, and on the link recomputes the allowance; the same demand does nothing more. -/
def DemandFollows (c : Settings) (s t : State) : Prop :=
  t.bank = { s.bank with demand := demandOf s.bank.charge } ∧
    if demandOf s.bank.charge = s.bank.demand then t.rail = s.rail ∧ t.link = s.link ∧ t.draws = s.draws
    else
      (if t.bank.demand = s.bank.lastAnnounced then t.link = s.link ∧ t.draws = s.draws
        else t.link = (enqueueAnnounce .draw s).link ∧ t.draws = (enqueueAnnounce .draw s).draws) ∧
      (if onTheLink s = true then AllowanceRecomputed c s t else t.rail = s.rail)

/-! ### Good states, block by block -/

/-- R3, R11, R185: every setting lies in its range, the rectangle fits the page, and the status cell lies inside it. -/
def SettingsOk (c : Settings) : Prop :=
  c.station.toNat ≤ 31 ∧ (1 ≤ c.lineCount ∧ c.lineCount ≤ 6) ∧ (c.firstLine ≤ 31 ∧ c.firstLine + c.lineCount ≤ 32) ∧
    (1 ≤ c.cellCount ∧ c.cellCount ≤ 10) ∧ (c.firstCell ≤ 63 ∧ c.firstCell + c.cellCount ≤ 64) ∧
    (1 ≤ c.tileCount ∧ c.tileCount ≤ 16) ∧ (600 ≤ c.railLimit ∧ c.railLimit ≤ 24000) ∧
    (5 ≤ c.holdLimit ∧ c.holdLimit ≤ 60) ∧ ∀ l k, c.statusCell = some (l, k) → l < c.lineCount ∧ k < c.cellCount

/-- R182, R186, R188, R189: settings are in force exactly outside CONFIG, each in its range, and the join-listen timer
runs exactly in LISTENING. -/
def StartOk (s : State) : Prop :=
  (s.start.life = .config ↔ s.start.settings = none) ∧ (s.start.joinTimer.isSome = true ↔ s.start.life = .listening) ∧
    ∀ c, s.start.settings = some c → SettingsOk c

/-- R108, R113: the bank charge lies in 0 to 4000, and own demand is the one worked out from it. -/
def BankOk (s : State) : Prop := s.bank.charge ≤ bankLimit ∧ s.bank.demand = demandOf s.bank.charge

/-- R35: every counter lies in 0 to 65535. -/
def CountersOk (s : State) : Prop := ∀ n ∈ Counters.list s.link.counters, n ≤ 65535

/-- How many announcements of a kind a queue holds. -/
def announceCount (k : Announce) (q : List QFrame) : Nat := q.countP (QFrame.isAnnounce k)

/-- R30: at most 6 frames, at most one DRAW and at most one SETTLED. -/
def QueueOk (s : State) : Prop :=
  s.link.queue.length ≤ queueLimit ∧ announceCount .draw s.link.queue ≤ 1 ∧ announceCount .settled s.link.queue ≤ 1

/-- R26, R25, R31: the attempt number lies in 1 to 10 and the window in 8 to 256; a backoff wait is under way only for a
ready head frame on a quiet line, its slot lying in 0 to W − 1. -/
def BackoffOk (s : State) : Prop :=
  1 ≤ s.link.attempt ∧ s.link.attempt ≤ 10 ∧ 8 ≤ s.link.window ∧ s.link.window ≤ 256 ∧
    ∀ k, s.link.wait = some k → k < s.link.window ∧ headReady s = true ∧ s.link.quiet = true

/-- R27, R30, R32, R37: a frame being sent is the head of the queue; an attempt of the head leaves it in the queue, and
its body is of the head's kind; a frame from before a LINK reset is the head. -/
def AttemptOk (s : State) : Prop :=
  ∀ o, s.link.onLine = some o → (o.phase = .sending → o.holdsHead = true) ∧
    (o.holdsHead = true → s.link.queue ≠ []) ∧ (o.preReset = true → o.holdsHead = true) ∧
    ∀ f q, s.link.queue = f :: q → o.holdsHead = true → bodyOfFrame f o.body

/-- R87, R151: the step timer runs exactly while the engine is RUNNING or FENCED, and the drift timer exactly while the
tile is JOINED with the engine IDLE. -/
def EngineOk (s : State) : Prop :=
  (s.pipe.stepTimer.isSome = true ↔ s.pipe.engine ≠ .idle) ∧
    (s.touch.driftTimer.isSome = true ↔ s.start.life = .joined ∧ s.pipe.engine = .idle)

/-- A slot holds no unfired row. -/
def allFired (slot : Option Slot) : Prop := ∀ x, slot = some x → x.fired = true

/-- A slot holds no fired row. -/
def allUnfired (slot : Option Slot) : Prop := ∀ x, slot = some x → x.fired = false

/-- The rows of the four slots. -/
def slotRows (s : State) : List Nat :=
  ([s.pipe.load, s.pipe.strike, s.pipe.settle, s.pipe.sense].filterMap id).map (·.row)

/-- R98, R100: an unfired row in a slot stands on an open line. -/
def openIfUnfired (s : State) (slot : Option Slot) : Prop :=
  ∀ x, slot = some x → x.fired = false → lineClosed s (x.row / 4) = false

/-- R65, R70, R86, R91: a row in flight is a row of the rectangle, with the moves, attempt, level and cost that a job
gave it. -/
def SnapshotOk (s : State) (x : Slot) : Prop :=
  x.row < rowCount s ∧ x.moves.raise &&& x.moves.lower = 0#20 ∧ x.moves.isEmpty = false ∧ 1 ≤ x.attempt ∧
    x.attempt ≤ 3 ∧ x.cost = strikeCost x.moves x.level

/-- R86, R88, R100, R102: an IDLE engine has empty slots, and the engine is IDLE in CONFIG and SCAN; a row in LOAD is
unfired, a row in SETTLE or SENSE is fired, and a FENCED engine holds no unfired row; no row is held in two slots; an
unfired row stands on an open line; and each row in flight holds a legal snapshot. -/
def SlotsOk (s : State) : Prop :=
  (s.pipe.engine = .idle → slotsEmpty s = true) ∧ (onTheLink s = false → s.pipe.engine = .idle) ∧
    allUnfired s.pipe.load ∧ allFired s.pipe.settle ∧ allFired s.pipe.sense ∧
    (s.pipe.engine = .fenced → s.pipe.load = none ∧ allFired s.pipe.strike) ∧ (slotRows s).Nodup ∧
    openIfUnfired s s.pipe.load ∧ openIfUnfired s s.pipe.strike ∧
    ∀ x, s.pipe.load = some x ∨ s.pipe.strike = some x ∨ s.pipe.settle = some x ∨ s.pipe.sense = some x → SnapshotOk s x

/-- R120, R124, R125: at most 15 entries, at most one for a station, none with the tile's own station, none with a
demand above 600 or a deadline more than 1500 ms off, standing in the order of their deadlines (log 10); none at all
in CONFIG and SCAN. -/
def ViewOk (s : State) : Prop :=
  s.rail.view.length ≤ viewLimit ∧ (s.rail.view.map (·.station)).Nodup ∧
    (∀ e ∈ s.rail.view, e.demand ≤ fullDemand ∧ e.remaining ≤ entryLife ∧ station s ≠ some e.station) ∧
    s.rail.view.Pairwise (fun a b => a.remaining ≤ b.remaining) ∧
    (onTheLink s = false → s.rail.view = [])

/-- R130, R131, R135: on the link the computed allowance is the one that own demand, the view and the line state give;
it is at most 600, and at most F while the line is down, and the applied allowance is never above it; a pending rise's
target is the computed allowance and lies above the applied one.  While LISTENING the applied allowance is 0 and a
pending rise is held; before LISTENING both allowances are 0 (R137). -/
def AllowanceOk (s : State) : Prop :=
  s.rail.applied ≤ s.rail.computed ∧ s.rail.computed ≤ fullDemand ∧
    (∀ r, s.rail.rise = some r → r.target = s.rail.computed ∧ s.rail.applied < r.target) ∧
    (s.link.lineUp = false → ∀ c, s.start.settings = some c → s.rail.computed ≤ floorShare c) ∧
    (onTheLink s = true → ∀ c, s.start.settings = some c →
      s.rail.computed = computeAllowance c s.bank.demand s.rail.view s.link.lineUp) ∧
    (s.start.life = .listening → s.rail.applied = 0 ∧ ∀ r, s.rail.rise = some r → r.phase = .held) ∧
    (onTheLink s = false → s.rail.computed = 0)

/-- R40, R42, R45: an open page's serial is not 0 and newer than T, and e never exceeds 4096. -/
def StagingOk (s : State) : Prop :=
  ∀ serial e, s.page.stagingState = .assembling serial e →
    serial ≠ 0 ∧ e ≤ 4096 ∧ newerThanTurned serial s.page.turned = true

/-- R54, R58: the page state is IDLE only while T is 0, and a WORKING page whose held mark is clear has outcome NONE. -/
def PageStateOk (s : State) : Prop :=
  (s.page.state = .idle → s.page.turned = 0) ∧
    (s.page.state = .working → s.page.heldMark = false → s.page.outcome = .none)

/-- R56: a WORKING page settles as soon as it can: while it stays WORKING the plan holds a job or the engine is not
IDLE. -/
def WorkOk (s : State) : Prop := s.page.state = .working → planEmpty s = true → s.pipe.engine ≠ .idle

/-- R187, R188: no work begins before LISTENING. -/
def BeforeListeningOk (s : State) : Prop := onTheLink s = false → NoWorkYet s

/-- R65: the job of a tile row has disjoint raise and lower sets, not both empty, made only of pins inside the rectangle
that are not STUCK, with attempt in 1 to 3. -/
def JobOk (s : State) (r : Nat) (j : Job) : Prop :=
  r < rowCount s ∧ j.moves.raise &&& j.moves.lower = 0#20 ∧ j.moves.isEmpty = false ∧
    (∀ p, j.moves.struck.getLsbD p = true → p < colCount s ∧ (faultAt s r p).isStuck = false) ∧
    1 ≤ j.attempt ∧ j.attempt ≤ 3

/-- R65, R67: every job of the plan is as the rule says, and the plan is empty in CONFIG. -/
def PlanOk (s : State) : Prop :=
  (∀ r j, jobAt s r = some j → JobOk s r j) ∧ (s.start.life = .config → planEmpty s = true)

/-- R161: the current pattern is the one its inputs give; T is 0 in CONFIG and SCAN (R62). -/
def PatternOk (s : State) : Prop := s.pattern = patternOf s ∧ (onTheLink s = false → s.page.turned = 0)

/-- R142, R146: the arrival filter runs only in ARRIVING, the departure filter only in LEAVING, and the presence timer
only on a strip that reads present and is not FAILED. -/
def GuardOk (g : LineGuard) : Prop :=
  (g.arrival.isSome = true ↔ g.guard = .arriving) ∧ (g.departure.isSome = true ↔ g.guard = .leaving) ∧
    (g.presence.isSome = true ↔ g.present = true ∧ g.failed = false)

/-- R142: every line's guard is as the rule says. -/
def TouchOk (s : State) : Prop := ∀ g ∈ s.touch.lines, GuardOk g

/-- R148: the accumulated hold time lies in 0 to H. -/
def HoldOk (s : State) : Prop := s.touch.holdTime ≤ holdLimitMs s

/-- R9, R82, R142: the images, the fault map and the touch guard have the size of the rectangle in force. -/
def SizesOk (s : State) : Prop :=
  s.page.staging.length = lineCount s * cellCount s ∧ s.page.target.length = lineCount s * cellCount s ∧
    s.shown.length = lineCount s * cellCount s ∧ s.plan.faults.length = rowCount s * colCount s ∧
    s.touch.lines.length = lineCount s

end Sys2Proof.Machine
end

