-- ==== Sys2Proof/WellFormed.lean ====
section
/-!
DEFINITION. Which operands a command's row of the opcode table gives it.  The machine is total: an ill-formed frame row
is a frame that fails the checks of R17 and is counted as such, or is the frame of another row.
-/

namespace Sys2Proof

/-- A frame that passes the sender and body checks of R17. -/
def wfFrame (sender : Byte) (b : Body) : Bool := decide (sender.toNat ≤ 31) && Machine.bodyOk b

/-- R20: a frame of another station that fails one of the six checks. -/
def wfDiscarded (h : Heard) : Bool :=
  !h.own &&
    match Machine.judgeFrame h.broken h.chars with
    | .good _ _ => false
    | _ => true

/-- R168: a query kind that the tile does not know. -/
def unknownKind (kind : Byte) : Bool := kind == 0 || decide (8 ≤ kind.toNat)

/-- The operands a row of the opcode table gives its command. -/
def Instr.wf : Instr → Bool
  | .powerOn _ => true
  | .resetPinAsserted => true
  | .resetPinReleased _ => true
  | .endOfConfig memory _ => decide (memory.length ≤ 256)
  | .scanComplete _ => true
  | .joinListenTimerExpiry => true
  | .discardedFrame heard => wfDiscarded heard
  | .page sender serial mode => wfFrame sender (.page serial mode)
  | .content sender serial seq line first cells => wfFrame sender (.content serial seq line first cells)
  | .turn sender serial total => wfFrame sender (.turn serial total)
  | .settled sender serial outcome detail => wfFrame sender (.settled serial outcome detail)
  | .draw sender demand fl lc fc cc ps serial outcome => wfFrame sender (.draw demand fl lc fc cc ps serial outcome)
  | .reply sender tag outcome kind code data => wfFrame sender (.reply tag outcome kind code data)
  | .statusSummary sender target tag arg => wfFrame sender (.query target tag 1 arg) && arg != [1]
  | .statusCounters sender target tag arg => wfFrame sender (.query target tag 1 arg) && arg != [0]
  | .digest sender target tag arg => wfFrame sender (.query target tag 2 arg)
  | .faults sender target tag arg => wfFrame sender (.query target tag 3 arg)
  | .flatten sender target tag arg => wfFrame sender (.query target tag 4 arg)
  | .clearFaults sender target tag arg => wfFrame sender (.query target tag 5 arg)
  | .identify sender target tag arg => wfFrame sender (.query target tag 6 arg)
  | .clearCounters sender target tag arg => wfFrame sender (.query target tag 7 arg)
  | .unknownQuery sender target tag kind arg => wfFrame sender (.query target tag kind arg) && unknownKind kind
  | .resetPage sender target => wfFrame sender (.reset target 0)
  | .resetLink sender target => wfFrame sender (.reset target 1)
  | .quietGap => true
  | .slotBegins => true
  | .deferral => true
  | .collision => true
  | .jamEnd => true
  | .attemptCompletes => true
  | .linkUp => true
  | .linkDown => true
  | .stepTimerExpiry _ => true
  | .railPeriod => true
  | .drawRefreshTimerExpiry => true
  | .settleTimerExpiry => true
  | .entryExpiry station => decide (station.toNat ≤ 31)
  | .presenceBegins _ => true
  | .presenceEnds _ => true
  | .arrivalFilterExpiry _ => true
  | .departureFilterExpiry _ => true
  | .presenceTimerExpiry _ => true
  | .holdLimitExpiry => true
  | .driftTimerExpiry _ _ _ _ => true
  | .queryDisregarded sender target tag kind arg => wfFrame sender (.query target tag kind arg)
  | .resetDisregarded sender target scope => wfFrame sender (.reset target scope)

end Sys2Proof
end

