-- ==== Sys2Proof/Certificates/Slice0/Obligations.lean ====
section
/-!
DEFINITION. The statements for the provers.  Each says what a command, an operation or the whole tile does; the frame of
a command is said with `Changes`, which names the only blocks of the state that may differ.
-/

open Sys2Proof Sys2Proof.Machine

/-! ### The queue of commands and time -/

/-- A step with a command waiting runs that command on the rest of the queue (the block's own form; log 4). -/
def Obligations.StepRunsTheFrontCommand : Prop :=
  ∀ (c : Instr) (rest : List Instr) (s : State), s.pending = c :: rest → step s = exec c (s.withPending rest)

/-- Every command answers a next state: this is read from the spec, where no rule stops the part and every step has its
effect (log 18).  No command touches the commands that wait or lowers the count of draws, both of them the model's own
fields (log 2). -/
def Obligations.EveryCommandAnswersANextState : Prop :=
  ∀ (c : Instr) (s : State), ∃ t, exec c s = .next t ∧ t.pending = s.pending ∧ s.draws ≤ t.draws

/-- The model's choice (log 4): with no command waiting, a step lets 1 ms pass; every running timer counts on up to its
period, a stopped one stays stopped, and nothing else changes.  With RSTN held low nothing changes (R182). -/
def Obligations.IdleStepPassesOneMillisecond : Prop :=
  ∀ s : State, s.pending = [] →
    (s.resetHeld = true → step s = .next s) ∧
    (Running s → ∃ t, step s = .next t ∧ Changes [.start, .pipe, .bank, .rail, .touch] s t ∧
      t.start = { s.start with joinTimer := s.start.joinTimer.map (fun n => min (n + 1) 1500) } ∧
      t.pipe = { s.pipe with stepTimer := s.pipe.stepTimer.map (fun n => min (n + 1) 6) } ∧
      t.bank = { s.bank with railTimer := s.bank.railTimer.map (fun n => min (n + 1) 10) } ∧
      t.rail.refreshTimer = s.rail.refreshTimer.map (fun n => min (n + 1) 500) ∧
      t.rail.computed = s.rail.computed ∧ t.rail.applied = s.rail.applied ∧
      t.rail.view.map (fun e => (e.station, e.demand, e.serial, e.outcome)) =
        s.rail.view.map (fun e => (e.station, e.demand, e.serial, e.outcome)) ∧
      t.rail.view.map (·.remaining) = s.rail.view.map (fun e => e.remaining - 1) ∧
      (∀ r, s.rail.rise = some r → ∃ r', t.rail.rise = some r' ∧ r'.target = r.target ∧ r'.awaited = r.awaited ∧
        r'.phase = (match r.phase with | .held => .held | .settling n => .settling (min (n + 1) 20))) ∧
      (s.rail.rise = none → t.rail.rise = none) ∧
      t.touch.holdPhase = s.touch.holdPhase ∧ t.touch.rotation = s.touch.rotation ∧
      t.touch.driftTimer = s.touch.driftTimer.map (fun n => min (n + 1) 2000) ∧
      t.touch.holdTime =
        (if s.touch.holdPhase = .running then min (s.touch.holdTime + 1) (holdLimitMs s) else s.touch.holdTime) ∧
      t.touch.lines.length = s.touch.lines.length ∧
      ∀ (l : Nat) (g : LineGuard), s.touch.lines[l]? = some g →
        t.touch.lines[l]? = some { g with arrival := g.arrival.map (fun n => min (n + 1) 30)
                                          departure := g.departure.map (fun n => min (n + 1) 200)
                                          presence := g.presence.map (fun n => min (n + 1) 600000) })

/-! ### Power, the reset pin and CONFIG -/

/-- POWER_ON and RESET_PIN_RELEASED: every block takes its power-on value and the straps are read (R182, R183, R36, R62,
R67, R88, R112, R117, R137, R155, R157, R165).  The queue of commands and the count of draws are the model's own and
are kept, and that the line has not yet been quiet for the quiet gap is the model's reading of R24 and R36 (both log 2);
that a release of a pin that is not held powers the tile on afresh is its choice (log 7). -/
def Obligations.PowerOnGivesEveryBlockItsPowerOnValue : Prop :=
  ∀ (c : Instr) (straps : BitVec 5) (s : State), c = .powerOn straps ∨ c = .resetPinReleased straps →
    ∃ t, exec c s = .next t ∧ t.pending = s.pending ∧ t.draws = s.draws ∧ t.resetHeld = false ∧
      t.start = { life := .config, straps := straps, settings := none, adjusted := false, joinTimer := none } ∧
      t.link = { queue := [], onLine := none, attempt := 1, window := 8, wait := none, quiet := false,
                 lineUp := false, counters := ⟨0, 0, 0, 0, 0, 0, 0, 0, 0, 0, 0, 0⟩, clash := false } ∧
      t.page = { staging := [], stagingState := .empty, target := [], turned := 0, state := .idle, outcome := .none,
                 detail := 0, heldMark := false, record := ⟨0, .lacking, 0⟩ } ∧
      (∀ r, jobAt t r = none) ∧ t.plan.faults = [] ∧
      t.pipe = { load := none, strike := none, settle := none, sense := none, engine := .idle, stepTimer := none,
                 matrix := none } ∧
      t.shown = [] ∧ t.bank = { charge := 0, railTimer := none, demand := 600, lastAnnounced := 0, transfer := 0 } ∧
      t.rail = { view := [], computed := 0, applied := 0, rise := none, refreshTimer := none } ∧
      t.touch = { lines := [], holdPhase := .inactive, holdTime := 0, driftTimer := none, rotation := 0 } ∧
      t.pattern = .blank

/-- RESET_PIN_ASSERTED: while RSTN is held low the part is stopped (R182): drivers, drives and recharge control are
released, no timer runs, filters, presence, hold and settle timers among them, and neither time nor any command but
POWER_ON and the pin's release changes anything (that the blocks hold their power-on values meanwhile is the model's
reading, log 3). -/
def Obligations.ResetPinStopsThePart : Prop :=
  ∀ s : State, ∃ t, exec .resetPinAsserted s = .next t ∧ t.pending = s.pending ∧ t.draws = s.draws ∧
    t.resetHeld = true ∧ t.start.life = .config ∧ t.link.onLine = none ∧ t.link.queue = [] ∧ t.pipe.matrix = none ∧
    slotsEmpty t = true ∧ t.bank.transfer = 0 ∧ t.bank.charge = 0 ∧ t.start.joinTimer = none ∧
    t.pipe.stepTimer = none ∧ t.bank.railTimer = none ∧ t.rail.refreshTimer = none ∧ t.touch.driftTimer = none ∧
    t.touch.lines = [] ∧ t.touch.holdPhase = .inactive ∧ t.rail.rise = none ∧ t.rail.view = [] ∧
    (∀ c : Instr, (∀ straps, c ≠ .powerOn straps ∧ c ≠ .resetPinReleased straps) → exec c t = .next t) ∧
    (t.pending = [] → step t = .next t)

/-- END_OF_CONFIG: the settings are put in force and handed to the blocks: the images and the fault map take their size
and their blank or OK contents, each strip found present begins its guard at once, and the tile enters SCAN (R186, R9,
R82, R141). -/
def Obligations.EndOfConfigPutsTheSettingsInForce : Prop :=
  ∀ (memory : List Byte) (strips : BitVec 6) (s : State), Running s → s.start.life = .config →
    ∃ t, exec (.endOfConfig memory strips) s = .next t ∧ Changes [.start, .page, .shown, .plan, .touch] s t ∧
      ∃ c, c = settingsOf s.start.straps memory ∧
        t.start = { s.start with life := .scan, settings := some c, adjusted := settingsAdjusted memory } ∧
        t.page = { s.page with staging := List.replicate (c.lineCount * c.cellCount) 0
                               target := List.replicate (c.lineCount * c.cellCount) 0 } ∧
        t.shown = List.replicate (c.lineCount * c.cellCount) 0 ∧
        t.plan = { s.plan with faults := List.replicate (8 * (c.lineCount * c.cellCount)) .ok } ∧
        t.touch = { s.touch with lines := t.touch.lines } ∧ t.touch.lines.length = c.lineCount ∧
        ∀ l < c.lineCount, t.touch.lines[l]? = some
          (if strips.getLsbD l then
            { guard := .arriving, arrival := some 0, departure := none, presence := some 0, failed := false }
          else { guard := .clear, arrival := none, departure := none, presence := none, failed := false })

/-- R3, R185, R186: of the records read from the settings memory the last of an item stands: a value in its range is
kept, one outside becomes the nearer bound, and an item without a record takes its default (the straps' number, for
the station); the rectangle is cut to the page, a status cell outside the rectangle becomes none, and the
configuration-adjusted flag is set exactly when one of these changes a value.  Each setting then lies in its range,
whatever the straps and the memory hold.  A memory without the signature gives the defaults. -/
def Obligations.SettingsInForceLieInTheirRanges : Prop :=
  ∀ (straps : BitVec 5) (memory : List Byte), ∃ c, c = settingsOf straps memory ∧
    c.station.toNat ≤ 31 ∧ 1 ≤ c.lineCount ∧ c.lineCount ≤ 6 ∧ c.firstLine ≤ 31 ∧ c.firstLine + c.lineCount ≤ 32 ∧
    1 ≤ c.cellCount ∧ c.cellCount ≤ 10 ∧ c.firstCell ≤ 63 ∧ c.firstCell + c.cellCount ≤ 64 ∧
    1 ≤ c.tileCount ∧ c.tileCount ≤ 16 ∧ 600 ≤ c.railLimit ∧ c.railLimit ≤ 24000 ∧ 5 ≤ c.holdLimit ∧
    c.holdLimit ≤ 60 ∧ (∀ l k, c.statusCell = some (l, k) → l < c.lineCount ∧ k < c.cellCount) ∧
    (let last (item : Byte) : Option Nat :=
      (((memoryRecords memory).filter (fun r => r.1 == item)).getLast?).map (·.2)
     let stands (item : Byte) (lo hi default : Nat) : Nat := (last item).elim default (fun v => max lo (min v hi))
     let changed (item : Byte) (lo hi : Nat) : Prop := ∃ v, last item = some v ∧ (v < lo ∨ hi < v)
     c.station = BitVec.ofNat 8 (stands 1 0 31 straps.toNat) ∧ c.firstLine = stands 2 0 31 0 ∧
       c.lineCount = min (stands 3 1 6 6) (32 - c.firstLine) ∧ c.firstCell = stands 4 0 63 0 ∧
       c.cellCount = min (stands 5 1 10 10) (64 - c.firstCell) ∧ c.tileCount = stands 6 1 16 16 ∧
       c.railLimit = stands 7 600 24000 3000 ∧ c.holdLimit = stands 9 5 60 20 ∧ c.source = memorySource memory ∧
       (c.statusCell = match last 8 with
        | none => none
        | some v =>
          if v ≠ 0xFFFF ∧ v / 256 < c.lineCount ∧ v % 256 < c.cellCount then some (v / 256, v % 256) else none) ∧
       (settingsAdjusted memory = true ↔
        changed 1 0 31 ∨ changed 2 0 31 ∨ changed 3 1 6 ∨ changed 4 0 63 ∨ changed 5 1 10 ∨ changed 6 1 16 ∨
          changed 7 600 24000 ∨ changed 9 5 60 ∨ c.lineCount ≠ stands 3 1 6 6 ∨ c.cellCount ≠ stands 5 1 10 10 ∨
          ∃ v, last 8 = some v ∧ v ≠ 0xFFFF ∧ c.statusCell = none)) ∧
    (memory.head? ≠ some 0xA7 → settingsAdjusted memory = false ∧
      c = { station := straps.zeroExtend 8, firstLine := 0, lineCount := 6, firstCell := 0, cellCount := 10,
            tileCount := 16, railLimit := 3000, holdLimit := 20, statusCell := none, source := .defaults })

/-- R184: records stored after the signature are read back in order, up to the end marker or to 32 of them, whatever
bytes follow. -/
def Obligations.StoredRecordsAreReadBack : Prop :=
  ∀ (records : List (Byte × Half)) (rest : List Byte),
    records.length ≤ 32 → (∀ r ∈ records, r.1 ≠ 0) → (records.length < 32 → rest.head? = some 0) →
      ∃ memory, memory = 0xA7#8 :: records.flatMap (fun r => r.1 :: halfBytes r.2) ++ rest ∧
        memorySource memory = .store ∧ memoryRecords memory = records.map (fun r => (r.1, r.2.toNat))

/-! ### Joining the link and RESET frames -/

/-- SCAN_COMPLETE: every pin of SHOWN stands as sensed, TARGET is a copy of SHOWN, the plan holds the status rows' diffs
alone, the fault map is untouched, and the tile enters LISTENING with its timers started, a DRAW queued, the allowance
recomputed with a rise held, and the pipeline's hold released; the touch guard keeps its lines, its hold time and its
rotation pointer, its drift timer stopped and the hold condition judged (R187, R67, R188, R135, R149, R151). -/
def Obligations.ScanCompleteEntersListening : Prop :=
  ∀ (sensed : Vector PinSet 24) (s : State) (c : Settings), Running s → ScanReady s → s.start.settings = some c →
    StartOk s → SizesOk s →
      ∃ t, exec (.scanComplete sensed) s = .next t ∧
        Changes [.start, .page, .plan, .pipe, .shown, .bank, .rail, .touch, .link, .draws] s t ∧
        t.start = { s.start with life := .listening, joinTimer := some 0 } ∧
        (∀ r p, r < rowCount s → p < colCount s →
          pinUp t.shown (cellCount s) r p = (sensed[r]?.getD 0#20).getLsbD p) ∧
        t.shown.length = s.shown.length ∧ t.page = { s.page with target := t.shown } ∧
        t.plan.faults = s.plan.faults ∧ OnlyStatusJobs t ∧ Queued .draw t ∧ t.draws = s.draws ∧
        t.link = (enqueueAnnounce .draw s).link ∧
        t.bank = { s.bank with railTimer := some (s.bank.railTimer.getD 0) } ∧ t.rail.view = s.rail.view ∧
        t.rail.refreshTimer = some 0 ∧
        t.rail.computed = computeAllowance c s.bank.demand s.rail.view s.link.lineUp ∧ t.rail.applied = 0 ∧
        (∀ r, t.rail.rise = some r → r.phase = .held ∧ r.target = t.rail.computed ∧ r.awaited = s.bank.demand) ∧
        (t.rail.rise = none ↔ t.rail.computed = 0) ∧ LookedForRow s t ∧ HoldJudged s t ∧
        t.touch = { s.touch with holdPhase := t.touch.holdPhase, driftTimer := none }

/-- JOIN_LISTEN_TIMER_EXPIRY: with its timer at 1500 ms the tile becomes JOINED; the head frame may contend, its slot
the free value of log 1, the allowance is recomputed, a rise still held waits for the tile's announcement on a line
that is up, and the drift timer starts on an IDLE engine (R189, R134, R151).  A timer that a LINK reset has started
afresh does not expire (R189, log 4). -/
def Obligations.JoinListenExpiryJoinsTheTile : Prop :=
  ∀ (s : State) (c : Settings), Running s → s.start.settings = some c →
    (Timer.due 1500 s.start.joinTimer = false → exec .joinListenTimerExpiry s = .next s) ∧
    (Timer.due 1500 s.start.joinTimer = true →
      ∃ t, exec .joinListenTimerExpiry s = .next t ∧ Changes [.start, .link, .draws, .rail, .touch] s t ∧
        t.start = { s.start with life := .joined, joinTimer := none } ∧
        Contended s.link (s.withStart t.start) t ∧ AllowanceRecomputed c s t ∧
        (∀ r, t.rail.rise = some r → r.phase = .held → s.link.lineUp = true ∧ s.bank.lastAnnounced < r.awaited) ∧
        t.touch = { s.touch with driftTimer :=
          if s.pipe.engine = .idle ∧ s.touch.driftTimer = none then some 0 else s.touch.driftTimer })

/-- RESET_PAGE: a RESET of scope PAGE for this station or for all makes the page reset and leaves the rest of the tile
alone (R190, R191, R61, R67, R102, R149, R165). -/
def Obligations.ResetPageMakesThePageReset : Prop :=
  ∀ (sender target : Byte) (s : State), Hears s sender → (station s = some target ∨ target = 255) →
    target.toNat ≤ 31 ∨ target = 255 → StartOk s → SlotsOk s →
      ∃ t, exec (.resetPage sender target) s = .next t ∧
        Changes [.link, .page, .plan, .pipe, .touch, .pattern] s t ∧ t.link = busyLink s ∧
        t.page = { s.page with stagingState := .empty, turned := 0, target := s.shown, state := .idle,
                               outcome := .none, detail := 0, heldMark := false } ∧
        OnlyStatusJobs t ∧ t.plan.faults = s.plan.faults ∧ t.pattern = .blank ∧
        t.touch.holdPhase = .inactive ∧ t.touch.holdTime = 0 ∧ t.touch.lines = s.touch.lines ∧
        t.touch.rotation = s.touch.rotation ∧ PipelineAfterTurn s t ∧
        (t.touch.driftTimer = s.touch.driftTimer ∨ (EngineStarted s t ∧ t.touch.driftTimer = none))

/-- RESET_LINK: a RESET of scope LINK for this station or for all makes the page reset, empties the queue but for an
attempt on the line, clears the counters and the clash flag, empties the view, and re-enters LISTENING with a DRAW
queued and the applied allowance 0 (R192, R37, R138, R117, R155, R188).  How a frame that runs on and the DRAW queued
at the entry meet on the line is the model's reading of R30 and R37 together (log 12). -/
def Obligations.ResetLinkStartsListeningAfresh : Prop :=
  ∀ (sender target : Byte) (s : State) (c : Settings), Hears s sender → (station s = some target ∨ target = 255) →
    target.toNat ≤ 31 ∨ target = 255 → s.start.settings = some c → StartOk s → SlotsOk s →
      ∃ t, exec (.resetLink sender target) s = .next t ∧
        Changes [.start, .link, .page, .plan, .pipe, .bank, .rail, .touch, .pattern] s t ∧
        t.start = { s.start with life := .listening, joinTimer := some 0 } ∧
        t.page = { s.page with stagingState := .empty, turned := 0, target := s.shown, state := .idle,
                               outcome := .none, detail := 0, heldMark := false } ∧
        OnlyStatusJobs t ∧ t.plan.faults = s.plan.faults ∧ t.pattern = .blank ∧ PipelineAfterTurn s t ∧
        t.touch = { s.touch with holdPhase := .inactive, holdTime := 0, driftTimer := none, rotation := 0 } ∧
        t.bank = { s.bank with lastAnnounced := 0, railTimer := some (s.bank.railTimer.getD 0) } ∧
        t.rail.view = [] ∧ t.rail.applied = 0 ∧ t.rail.refreshTimer = some 0 ∧
        t.rail.computed = computeAllowance c s.bank.demand [] s.link.lineUp ∧
        (∀ r, t.rail.rise = some r → r.phase = .held ∧ r.target = t.rail.computed ∧ r.awaited = s.bank.demand) ∧
        (t.rail.rise = none ↔ t.rail.computed = 0) ∧
        t.link.counters = ⟨0, 0, 0, 0, 0, 0, 0, 0, 0, 0, 0, 0⟩ ∧ t.link.clash = false ∧ t.link.attempt = 1 ∧
        t.link.window = 8 ∧ t.link.wait = none ∧ t.link.quiet = false ∧ t.link.lineUp = s.link.lineUp ∧
        Queued .draw t ∧
        (s.link.onLine = none → t.link.onLine = none ∧ t.link.queue = [.announce .draw false]) ∧
        (∀ o, s.link.onLine = some o → o.holdsHead = false →
          t.link.onLine = some { o with preReset := false } ∧ t.link.queue = [.announce .draw false]) ∧
        (∀ o f q, s.link.onLine = some o → s.link.queue = f :: q →
          (o.holdsHead = true → QFrame.isAnnounce .draw f = false →
            t.link.onLine = some { o with preReset := true } ∧
              t.link.queue = [QFrame.unmarked f, .announce .draw false]) ∧
          (o.holdsHead = true → QFrame.isAnnounce .draw f = true → o.phase = .sending →
            t.link.onLine = some { o with preReset := true } ∧ t.link.queue = [.announce .draw true]) ∧
          (o.holdsHead = true → QFrame.isAnnounce .draw f = true → o.phase = .jamming →
            t.link.onLine = some { o with preReset := false } ∧ t.link.queue = [.announce .draw false]))

/-! ### Receiving frames -/

/-- REPLY, QUERY_DISREGARDED and RESET_DISREGARDED: a good REPLY, a QUERY that is not for this tile or comes before it
is JOINED, and a RESET for another station change nothing but that the line has been busy (R23, R167, R190). -/
def Obligations.FramesForOthersChangeNothing : Prop :=
  ∀ (sender : Byte) (s : State), Hears s sender →
    (∀ (tag outcome kind code : Byte) (data : List Byte), data.length ≤ 40 →
      ∃ t, exec (.reply sender tag outcome kind code data) s = .next t ∧ Changes [.link] s t ∧ t.link = busyLink s) ∧
    (∀ (target tag kind : Byte) (arg : List Byte), arg.length ≤ 4 →
      (s.start.life = .listening ∨ station s ≠ some target) →
        ∃ t, exec (.queryDisregarded sender target tag kind arg) s = .next t ∧ Changes [.link] s t ∧
          t.link = busyLink s) ∧
    (∀ (target scope : Byte), target.toNat ≤ 31 → scope.toNat ≤ 1 → station s ≠ some target →
      ∃ t, exec (.resetDisregarded sender target scope) s = .next t ∧ Changes [.link] s t ∧ t.link = busyLink s)

/-- In CONFIG and SCAN every frame heard is dropped at its end: nothing is checked, counted, noted or delivered (R19).
-/
def Obligations.FramesBeforeListeningAreDropped : Prop :=
  ∀ (c : Instr) (s : State), Running s → (s.start.life = .config ∨ s.start.life = .scan) →
    (frameOf c ≠ none ∨ ∃ h, c = .discardedFrame h ∧ h.own = false) →
      ∃ t, exec c s = .next t ∧ Changes [.link] s t ∧ t.link = busyLink s

/-- R15, R20 and R21: a frame during which the tile drove the line changes nothing.  Of any other frame the line's
readings give the characters: after a lead of 12 bit times, ten each, with the data bits least significant first, and
broken when a stop bit reads low or the line is released before one.  That the lead's own readings do not matter is
the model's choice (log 22).  Then come the six checks in their order, each with its counter; a frame that passes them
goes to the clash check and to delivery. -/
def Obligations.SixChecksDecideAFrame : Prop :=
  ∀ (h : Heard) (s : State),
    (h.own = true → exec (.discardedFrame h) s = .next s) ∧
    (h.broken = true ↔ h.line.length < 12 ∨ (h.line.length - 12) % 10 ≠ 0 ∨
      ∃ i < (h.line.length - 12) / 10, h.line[12 + 10 * i + 9]? = some false) ∧
    (h.broken = false → h.line.length = 12 + 10 * h.chars.length ∧
      ∀ i < h.chars.length, ∀ k < 8, h.line[12 + 10 * i + 1 + k]? = some ((h.chars.getD i 0).getLsbD k)) ∧
    (Running s → onTheLink s = true → h.own = false →
    ∃ t, exec (.discardedFrame h) s = .next t ∧
      (let counted (k : Counter) : Prop := Changes [.link] s t ∧
        t.link = { busyLink s with counters := s.link.counters.inc k }
       let n := (h.chars.getD 2 0).toNat
       if h.broken = true ∨ h.chars.length < 5 then counted .crcErrors
       else if halfBytes (crc16 (h.chars.take (h.chars.length - 2))) ≠ h.chars.drop (h.chars.length - 2) then
         counted .crcErrors
       else if 48 < n ∨ h.chars.length ≠ n + 5 then counted .malformed
       else if 31 < (h.chars.getD 1 0).toNat then counted .malformed
       else if (h.chars.getD 0 0).toNat = 0 ∨ 8 < (h.chars.getD 0 0).toNat then counted .unknownKind
       else
         match parseBody (h.chars.getD 0 0).toNat ((h.chars.drop 3).take n) with
         | none => counted .malformed
         | some b =>
           if bodyOk b = false then counted .malformed else t = acceptFrame (h.chars.getD 1 0) b (lineBusy s)))

/-- R14 to R18: the characters of a frame: kind code, sender and body length, then the body's fields in the order of
R17, two-byte fields high byte first, then the check, high byte first (R16).  The check is R18's: the bits of the
bytes, each byte most significant bit first, are fed into a register that starts at 0xFFFF, with generator x^16 + x^12
+ x^5 + 1. What a transmitter drives for some characters is a lead of 12 low bit times and ten bit times for each
character: a low start bit, its data bits least significant first, and a high stop bit; a receiver reads the same
characters back, none broken; and a well-formed frame row acts exactly as its readings on the line do.  That a
DISCARDED_FRAME row whose readings pass every check acts as that frame is the model's choice (log 9). -/
def Obligations.WireFormActsAsItsRow : Prop :=
  (∀ (sender : Byte) (b : Body),
    (let hi (h : Half) : Byte := BitVec.ofNat 8 (h.toNat / 256)
     let lo (h : Half) : Byte := BitVec.ofNat 8 (h.toNat % 256)
     let kind : Byte :=
      match b with
      | .page .. => 1
      | .content .. => 2
      | .turn .. => 3
      | .settled .. => 4
      | .draw .. => 5
      | .query .. => 6
      | .reply .. => 7
      | .reset .. => 8
     let body : List Byte :=
      match b with
      | .page serial mode => [hi serial, lo serial, mode]
      | .content serial seq line first cells => [hi serial, lo serial, hi seq, lo seq, line, first] ++ cells
      | .turn serial total => [hi serial, lo serial, hi total, lo total]
      | .settled serial outcome detail => [hi serial, lo serial, outcome, hi detail, lo detail]
      | .draw demand firstLine lineCount firstCell cellCount pageState serial outcome =>
        [demand, firstLine, lineCount, firstCell, cellCount, pageState, hi serial, lo serial, outcome]
      | .query target tag kind arg => [target, tag, kind] ++ arg
      | .reply tag outcome kind code data => [tag, outcome, kind, code] ++ data
      | .reset target scope => [target, scope]
     let head := [kind, sender, BitVec.ofNat 8 body.length] ++ body
     (∀ h, halfBytes h = [hi h, lo h]) ∧ Body.kindCode b = kind ∧ bodyBytes b = body ∧
       frameChars sender b = head ++ [hi (crc16 head), lo (crc16 head)])) ∧
  (∀ bytes : List Byte,
    (let feed (register : Half) (bit : Bool) : Half :=
      if register.getLsbD 15 = bit then register <<< 1 else (register <<< 1) ^^^ 0x1021#16
     crc16 bytes = (bytes.flatMap (fun b => (List.range 8).map (fun k => b.getLsbD (7 - k)))).foldl feed 0xFFFF#16)) ∧
  (crc16 [0x31, 0x32, 0x33, 0x34, 0x35, 0x36, 0x37, 0x38, 0x39] = 0x29B1 ∧ crc16 [] = 0xFFFF) ∧
  (∀ chars : List Byte,
    (wireBits chars).length = 12 + 10 * chars.length ∧ (∀ i < 12, (wireBits chars)[i]? = some false) ∧
      (∀ i < chars.length, (wireBits chars)[12 + 10 * i]? = some false ∧
        (∀ k < 8, (wireBits chars)[12 + 10 * i + 1 + k]? = some ((chars.getD i 0).getLsbD k)) ∧
        (wireBits chars)[12 + 10 * i + 9]? = some true) ∧
      ∀ own, Heard.broken ⟨own, wireBits chars⟩ = false ∧ Heard.chars ⟨own, wireBits chars⟩ = chars) ∧
  ∀ (c : Instr) (sender : Byte) (b : Body) (s : State), frameOf c = some (sender, b) → c.wf = true →
    exec (.discardedFrame ⟨false, wireBits (frameChars sender b)⟩) s = exec c s

/-- R22, R17: a good frame of any kind that bears the tile's own station number is a clash, counted and not delivered;
a frame row whose sender exceeds 31 or whose body fails the checks in R17's table is counted as malformed.  The
table's checks decide as well whether body bytes heard on the line spell a body, and which: the one of that kind whose
bytes they are. -/
def Obligations.ClashesAndMalformedRowsAreCounted : Prop :=
  (∀ (c : Instr) (sender : Byte) (b : Body) (s : State), frameOf c = some (sender, b) → Running s →
    onTheLink s = true →
      (sender.toNat ≤ 31 → ¬ malformedBody (Body.kindCode b).toNat (bodyBytes b) → station s = some sender →
        ∃ t, exec c s = .next t ∧ Changes [.link] s t ∧
          t.link = { busyLink s with counters := s.link.counters.inc .clashes, clash := true }) ∧
      (31 < sender.toNat ∨ malformedBody (Body.kindCode b).toNat (bodyBytes b) →
        ∃ t, exec c s = .next t ∧ Changes [.link] s t ∧
          t.link = { busyLink s with counters := s.link.counters.inc .malformed })) ∧
  (∀ b : Body, bodyOk b = true ↔ ¬ malformedBody (Body.kindCode b).toNat (bodyBytes b)) ∧
  ∀ (kind sender : Byte) (bytes : List Byte), 1 ≤ kind.toNat → kind.toNat ≤ 8 →
    (malformedBody kind.toNat bytes → judgeBody kind sender bytes = .malformed) ∧
    (¬ malformedBody kind.toNat bytes →
      ∃ b, judgeBody kind sender bytes = .good sender b ∧ Body.kindCode b = kind ∧ bodyBytes b = bytes)

/-! ### Page frames -/

/-- PAGE: R41, R42 and R43 by the serial's distance from T and the staging state: stale, opened, opened in place of a
superseded page, restarted. -/
def Obligations.PageFrameOpensRestartsOrIsStale : Prop :=
  ∀ (sender : Byte) (serial : Half) (mode : Byte) (s : State), Hears s sender → serial ≠ 0 → mode.toNat ≤ 1 →
    ∃ t, exec (.page sender serial mode) s = .next t ∧ Changes [.link, .page] s t ∧
      (let opened : Page := { s.page with
          staging := if mode = 0 then List.replicate s.page.staging.length 0 else s.page.target
          stagingState := .assembling serial 0 }
       let distance := (serial - s.page.turned).toNat
       if s.page.turned ≠ 0 ∧ (distance = 0 ∨ 32768 ≤ distance) then
         t.page = s.page ∧ t.link = { busyLink s with counters := s.link.counters.inc .stale }
       else
         t.page = opened ∧
           match s.page.stagingState with
           | .empty => t.link = busyLink s
           | .assembling cur _ =>
             if cur = serial then t.link = busyLink s
             else t.link = { busyLink s with counters := s.link.counters.inc .superseded })

/-- CONTENT: R44, R46 and R47: an orphan, a gap drop and a duplicate are counted and change neither STAGING nor e. -/
def Obligations.ContentOutOfSequenceIsCountedAndIgnored : Prop :=
  ∀ (sender : Byte) (serial seq : Half) (line first : Byte) (cells : List Byte) (s : State), Hears s sender →
    bodyOk (.content serial seq line first cells) = true →
      ((∀ e, s.page.stagingState ≠ .assembling serial e) →
        ∃ t, exec (.content sender serial seq line first cells) s = .next t ∧ Changes [.link] s t ∧
          t.link = { busyLink s with counters := s.link.counters.inc .orphans }) ∧
      (∀ e, s.page.stagingState = .assembling serial e →
        (e < seq.toNat →
          ∃ t, exec (.content sender serial seq line first cells) s = .next t ∧ Changes [.link] s t ∧
            t.link = { busyLink s with counters := s.link.counters.inc .gapDrops }) ∧
        (seq.toNat < e →
          ∃ t, exec (.content sender serial seq line first cells) s = .next t ∧ Changes [.link] s t ∧
            t.link = { busyLink s with counters := s.link.counters.inc .duplicates }))

/-- CONTENT: R45 with R13: the fragment numbered e is taken: each cell of STAGING whose page line and page cell the
fragment covers takes the fragment's byte, every other cell stays, and e rises by one. -/
def Obligations.TakenFragmentWritesItsOverlap : Prop :=
  ∀ (sender : Byte) (serial seq : Half) (line first : Byte) (cells : List Byte) (s : State) (c : Settings),
    Hears s sender → bodyOk (.content serial seq line first cells) = true → s.start.settings = some c →
    s.page.stagingState = .assembling serial seq.toNat → SizesOk s →
      ∃ t, exec (.content sender serial seq line first cells) s = .next t ∧ Changes [.link, .page] s t ∧
        t.link = busyLink s ∧
        t.page = { s.page with staging := t.page.staging, stagingState := .assembling serial (seq.toNat + 1) } ∧
        t.page.staging.length = s.page.staging.length ∧
        ∀ l k, l < c.lineCount → k < c.cellCount →
          cellAt t.page.staging c.cellCount l k =
            if c.firstLine + l = line.toNat ∧ first.toNat ≤ c.firstCell + k ∧
                c.firstCell + k < first.toNat + cells.length then
              cells.getD (c.firstCell + k - first.toNat) 0
            else cellAt s.page.staging c.cellCount l k

/-- TURN: R49: the TURN of the page under assembly, with enough fragments, makes STAGING the TARGET, starts the work on
it and keeps everything that a turn leaves alone; a page that needs no work settles in the same event, with the count of
the STUCK pins off their targets (R56, R57). -/
def Obligations.TurnTakenStartsThePage : Prop :=
  ∀ (sender : Byte) (serial total : Half) (s : State) (e : Nat), Hears s sender → serial ≠ 0 → total.toNat ≤ 4096 →
    s.page.stagingState = .assembling serial e → total.toNat ≤ e → StartOk s → SlotsOk s →
      ∃ t, exec (.turn sender serial total) s = .next t ∧
        Changes [.link, .draws, .page, .plan, .pipe, .touch, .pattern] s t ∧ t.draws = s.draws ∧
        t.page.target = s.page.staging ∧ t.page.staging = s.page.staging ∧ t.page.turned = serial ∧
        t.page.stagingState = .empty ∧ PageAfterTurn s t ∧ WorkStarted s t

/-- TURN: R50 to R53: a TURN that is lacking content, a duplicate, for an unopened page or stale, in the order of R48's
table: what is announced, what is counted, and that nothing else of the page is touched. -/
def Obligations.TurnNotTakenIsAnsweredOrStale : Prop :=
  ∀ (sender : Byte) (serial total : Half) (s : State), Hears s sender → serial ≠ 0 → total.toNat ≤ 4096 →
    PageStateOk s →
      ∃ t, exec (.turn sender serial total) s = .next t ∧
        (let announced (outcome : PageOutcome) (detail : Nat) : Prop :=
          Changes [.link, .page] s t ∧ t.page = { s.page with record := ⟨serial, outcome, detail⟩ } ∧
            t.link = (enqueueAnnounce .settled (lineBusy s)).link ∧ Queued .settled t
         let elsewhere : Prop :=
          if serial = s.page.turned then
            match s.page.state with
            | .settled => announced s.page.outcome s.page.detail
            | .working =>
              if s.page.outcome = .held then announced .held s.page.detail
              else Changes [.link] s t ∧ t.link = busyLink s
            | .idle => False
          else if s.page.turned = 0 ∨ (1 ≤ (serial - s.page.turned).toNat ∧ (serial - s.page.turned).toNat ≤ 32767) then
            announced .lacking 0
          else
            Changes [.link] s t ∧ t.link = { busyLink s with counters := s.link.counters.inc .stale }
         match s.page.stagingState with
         | .empty => elsewhere
         | .assembling cur e => if cur ≠ serial then elsewhere else (e < total.toNat → announced .lacking e))

/-! ### Announcements of peers -/

/-- SETTLED: R122: the entry of a sender in the view takes the frame's serial and outcome and keeps its demand and
deadline, the pattern is worked out, and the allowance is left alone; of a sender not in the view the frame is
disregarded.  R159 and R160: the pattern that is worked out: BLANK while T is 0; else READY for a SETTLED page with at
least P − 1 live entries, every entry of the tile's own T with outcome DONE or DONE_FAULTS; else WORKING; the last two
with the ATTENTION overlay when the tile's own outcome or an entry's is DONE_FAULTS, a strip is FAILED, or the line is
down. -/
def Obligations.SettledFrameUpdatesItsEntry : Prop :=
  (∀ (s : State) (overlay : Bool),
    (let ready : Prop := ∃ c, s.start.settings = some c ∧ s.page.state = .settled ∧
      c.tileCount - 1 ≤ s.rail.view.length ∧
      ∀ e ∈ s.rail.view, e.serial = s.page.turned ∧ (e.outcome = .done ∨ e.outcome = .doneFaults)
     (overlay = true ↔ s.page.outcome = .doneFaults ∨ (∃ e ∈ s.rail.view, e.outcome = .doneFaults) ∨
      (∃ g ∈ s.touch.lines, g.failed = true) ∨ s.link.lineUp = false) →
      (s.page.turned = 0 → patternOf s = .blank) ∧
      (s.page.turned ≠ 0 → ready → patternOf s = .ready overlay) ∧
      (s.page.turned ≠ 0 → ¬ ready → patternOf s = .working overlay))) ∧
  ∀ (sender : Byte) (serial : Half) (outcome : Byte) (detail : Half) (s : State), Hears s sender →
    1 ≤ outcome.toNat → outcome.toNat ≤ 4 → StartOk s → SlotsOk s →
      ∃ t, exec (.settled sender serial outcome detail) s = .next t ∧
        (if inView s.rail.view sender = true then
          Changes [.link, .draws, .rail, .page, .plan, .pipe, .touch, .pattern] s t ∧ t.draws = s.draws ∧
            t.rail = { s.rail with view := s.rail.view.map (fun e =>
              if e.station = sender then
                { e with serial := serial
                         outcome := if outcome = 1 then .done else if outcome = 2 then .doneFaults
                                    else if outcome = 3 then .held else .lacking }
              else e) } ∧
            PatternWorkedOut ((s.withLink (busyLink s)).withRail t.rail) t
        else Changes [.link] s t ∧ t.link = busyLink s)

/-- DRAW: R121 and R124: the sender's entry is renewed, created, or, in a full view, created in place of the one with
the earliest deadline, which stands first since the view keeps the order of the deadlines (log 10); the pattern is
worked out, and the allowance recomputed and applied (R128, R131, R133). -/
def Obligations.DrawFrameRenewsTheView : Prop :=
  ∀ (sender demand fl lc fc cc ps : Byte) (serial : Half) (outcome : Byte) (s : State) (c : Settings),
    Hears s sender → demand.toNat ≤ 12 → s.start.settings = some c → StartOk s → SlotsOk s →
      ∃ t, exec (.draw sender demand fl lc fc cc ps serial outcome) s = .next t ∧
        Changes [.link, .draws, .rail, .page, .plan, .pipe, .touch, .pattern] s t ∧ t.draws = s.draws ∧
        (let e : PeerEntry :=
          { station := sender, demand := demand.toNat * 50, serial := serial
            outcome := if outcome = 1 then .done else if outcome = 2 then .doneFaults
                       else if outcome = 3 then .held else if outcome = 4 then .lacking else .none
            remaining := 1500 }
         t.rail.view =
          if inView s.rail.view sender = true then s.rail.view.filter (fun x => x.station != sender) ++ [e]
          else if s.rail.view.length < 15 then s.rail.view ++ [e]
          else s.rail.view.tail ++ [e]) ∧
        AllowanceRecomputed c (s.withRail { s.rail with view := t.rail.view }) t ∧
        PatternWorkedOut ((s.withLink (busyLink s)).withRail { s.rail with view := t.rail.view }) t

/-! ### Queries -/

/-- STATUS_SUMMARY: R171: the 28 bytes of the summary, with the guarded-line and failed-strip masks bit by bit (R156),
and the codes of the page state, the last outcome and the engine state (R171; LACKING has its code from R17) and the
bytes of the five patterns (R158); the plan job count is the number of rows with a job (R66), and the slots live the
number of slots that hold a row (R107). -/
def Obligations.StatusSummaryReportsTheTile : Prop :=
  (PageState.code .idle = 0 ∧ PageState.code .working = 1 ∧ PageState.code .settled = 2) ∧
  (PageOutcome.code .none = 0 ∧ PageOutcome.code .done = 1 ∧ PageOutcome.code .doneFaults = 2 ∧
    PageOutcome.code .held = 3 ∧ PageOutcome.code .lacking = 4) ∧
  (Engine.code .idle = 0 ∧ Engine.code .running = 1 ∧ Engine.code .fenced = 2) ∧
  (Pattern.byte .blank = 0x00 ∧ Pattern.byte (.working false) = 0x24 ∧ Pattern.byte (.working true) = 0xE4 ∧
    Pattern.byte (.ready false) = 0x3F ∧ Pattern.byte (.ready true) = 0xFF) ∧
  (∀ s : State, jobCount s = (List.range 24).countP (fun r => (jobAt s r).isSome) ∧
    slotsLive s = [s.pipe.load, s.pipe.strike, s.pipe.settle, s.pipe.sense].countP Option.isSome) ∧
  ∀ (sender target tag : Byte) (s : State), TakesQuery s sender target →
    ∃ t guarded failed, exec (.statusSummary sender target tag [0]) s = .next t ∧ Changes [.link] s t ∧
      t.link = linkWithReply
        { tag := tag, outcome := 1, kind := 1, code := 0
          data :=
            [3, if s.link.lineUp then 1 else 0, PageState.code s.page.state, PageOutcome.code s.page.outcome] ++
            halfBytes s.page.turned ++
            (match s.page.stagingState with
              | .empty => [0, 0, 0, 0, 0]
              | .assembling serial e => [1] ++ halfBytes serial ++ halfBytes (BitVec.ofNat 16 e)) ++
            [BitVec.ofNat 8 (jobCount s), Engine.code s.pipe.engine, BitVec.ofNat 8 (slotsLive s)] ++
            halfBytes (BitVec.ofNat 16 s.bank.charge) ++ halfBytes (BitVec.ofNat 16 s.rail.applied) ++
            [BitVec.ofNat 8 (s.bank.demand / 50), BitVec.ofNat 8 s.rail.view.length, guarded, failed] ++
            halfBytes (BitVec.ofNat 16 (s.plan.faults.countP (· == .weak))) ++
            halfBytes (BitVec.ofNat 16 (s.plan.faults.countP (fun x => x == .stuckUp || x == .stuckDown))) ++
            [Pattern.byte s.pattern, statusFlags s] }
        (busyLink s) ∧
      (∀ l, guarded.getLsbD l = (decide (l < 6) && (s.touch.lines[l]?.elim false (fun g => g.guard != .clear)))) ∧
      (∀ l, failed.getLsbD l = (decide (l < 6) && (s.touch.lines[l]?.elim false (·.failed)))) ∧
      (statusFlags s).getLsbD 0 = s.start.adjusted ∧ (statusFlags s).getLsbD 1 = s.link.clash ∧
      (statusFlags s).getLsbD 2 = (s.start.settings.elim false (fun c => c.source == .defaults)) ∧
      (∀ k, 3 ≤ k → (statusFlags s).getLsbD k = false)

/-- STATUS_COUNTERS: R172: the twelve counters in the order of R35, two bytes each, as they stand when the query is
taken; the query changes none of them but a dropped reply. -/
def Obligations.StatusCountersReportsTheCounters : Prop :=
  ∀ (sender target tag : Byte) (s : State), TakesQuery s sender target →
    ∃ t k, k = s.link.counters ∧ exec (.statusCounters sender target tag [1]) s = .next t ∧ Changes [.link] s t ∧
      t.link = linkWithReply
        { tag := tag, outcome := 1, kind := 1, code := 0
          data := [k.crcErrors, k.malformed, k.unknownKind, k.collisions, k.abandoned, k.repliesDropped, k.clashes,
            k.stale, k.superseded, k.orphans, k.gapDrops, k.duplicates].flatMap
              (fun n => halfBytes (BitVec.ofNat 16 n)) }
        (busyLink s)

/-- DIGEST: R173: the check over the cells of SHOWN (argument 0) or TARGET (argument 1) in reading order, the status
cell's place fed the byte 0. -/
def Obligations.DigestChecksAnImage : Prop :=
  ∀ (sender target tag : Byte) (s : State), TakesQuery s sender target →
    ∀ (which : Byte) (img : Image), (which = 0 ∧ img = s.shown) ∨ (which = 1 ∧ img = s.page.target) →
      ∃ t cells, exec (.digest sender target tag [which]) s = .next t ∧ Changes [.link] s t ∧
        t.link = linkWithReply { tag := tag, outcome := 1, kind := 2, code := 0, data := halfBytes (crc16 cells) }
          (busyLink s) ∧
        cells.length = img.length ∧
        ∀ i < img.length, cells[i]? =
          if (statusCell s).elim false (fun p => p.1 * cellCount s + p.2 == i) then some 0 else img[i]?

/-- FAULTS: R174 and R85: the length of the fault list, the start index, and up to twelve entries from it, the list
being the pins that are not OK in reading order. -/
def Obligations.FaultsListsThePinsNotOk : Prop :=
  (PinFault.code .weak = 1 ∧ PinFault.code .stuckUp = 2 ∧ PinFault.code .stuckDown = 3) ∧
  ∀ (sender target tag start : Byte) (s : State), TakesQuery s sender target →
    ∃ t list, exec (.faults sender target tag [start]) s = .next t ∧ Changes [.link] s t ∧
      list = (List.range s.plan.faults.length).filterMap (fun i =>
        let x := s.plan.faults.getD i .ok
        if x = .ok then none else some (i / colCount s, i % colCount s, x)) ∧
      list.length = s.plan.faults.countP (· != .ok) ∧
      t.link = linkWithReply
        { tag := tag, outcome := 1, kind := 3, code := 0
          data := halfBytes (BitVec.ofNat 16 list.length) ++ [start] ++
            ((list.drop start.toNat).take 12).flatMap (fun e =>
              [BitVec.ofNat 8 e.1, BitVec.ofNat 8 e.2.1, PinFault.code e.2.2]) }
        (busyLink s)

/-- IDENTIFY: R175: the 15 bytes that describe the part and its settings in force. -/
def Obligations.IdentifyReportsTheSettings : Prop :=
  ∀ (sender target tag : Byte) (s : State) (c : Settings), TakesQuery s sender target → s.start.settings = some c →
    ∃ t, exec (.identify sender target tag []) s = .next t ∧ Changes [.link] s t ∧
      t.link = linkWithReply
        { tag := tag, outcome := 1, kind := 6, code := 0
          data :=
            [0x06, 0x10, 1, c.station, BitVec.ofNat 8 c.firstLine, BitVec.ofNat 8 c.lineCount,
              BitVec.ofNat 8 c.firstCell, BitVec.ofNat 8 c.cellCount, BitVec.ofNat 8 c.tileCount] ++
            halfBytes (BitVec.ofNat 16 c.railLimit) ++ [BitVec.ofNat 8 c.holdLimit] ++
            (match c.statusCell with
              | none => [0xFF, 0xFF]
              | some (l, k) => [BitVec.ofNat 8 l, BitVec.ofNat 8 k]) ++
            [match c.source with | .store => 0 | .defaults => 1] }
        (busyLink s)

/-- FLATTEN: R59 and R176: TARGET is blank with T and the page under assembly kept, the work starts as at a turn, and
the reply joins the queue after it. -/
def Obligations.FlattenStartsABlankPage : Prop :=
  ∀ (sender target tag : Byte) (s : State), TakesQuery s sender target → StartOk s → SlotsOk s →
    ∃ t u, exec (.flatten sender target tag []) s = .next t ∧
      Changes [.link, .draws, .page, .plan, .pipe, .touch, .pattern] s t ∧ t.draws = s.draws ∧
      t.page.target = List.replicate s.page.target.length 0 ∧ t.page.turned = s.page.turned ∧
      t.page.staging = s.page.staging ∧ t.page.stagingState = s.page.stagingState ∧ WorkStarted s t ∧
      Changes [.link] u t ∧ PageAfterTurn s u ∧
      t.link = linkWithReply { tag := tag, outcome := 1, kind := 4, code := 0, data := [] } u.link

/-- CLEAR_FAULTS: R177, R83 and R147: every pin OK, every FAILED flag clear with its presence timer started again
where the strip reads present, the pattern worked out if a flag was set, every row refreshed against the cleared map,
and the reply queued; rows in flight stay but for the unfired ones whose lines close; an IDLE engine that finds a row
to strike starts, with the job that the change of pattern found where that came first (the order of log 17), and
otherwise with a refreshed one; the hold condition is judged; and a WORKING page left with an IDLE engine and no job
settles as DONE, no pin being STUCK any more, by R56 where R83 and R177 leave the page as it is (log 24). -/
def Obligations.ClearFaultsStartsAfresh : Prop :=
  ∀ (sender target tag : Byte) (s : State), TakesQuery s sender target → StartOk s → SlotsOk s →
    PatternOk s → ∃ t, exec (.clearFaults sender target tag []) s = .next t ∧
      Changes [.link, .draws, .page, .plan, .pipe, .touch, .pattern] s t ∧ t.draws = s.draws ∧
      t.plan.faults = List.replicate s.plan.faults.length .ok ∧
      (∀ r < rowCount s, jobAt t r = if t.page = s.page then refreshedJob s t r else freshJob t r) ∧
      (t.touch = { s.touch with
        lines := s.touch.lines.map (fun g =>
          if g.failed then
            { g with failed := false
                     presence := if g.guard = .arriving ∨ g.guard = .touched then some 0 else none }
          else g)
        holdPhase := t.touch.holdPhase
        driftTimer := if t.pipe.engine = s.pipe.engine then s.touch.driftTimer else none }) ∧
      HoldJudged s t ∧
      t.pattern = (if s.touch.lines.any (·.failed) = true ∨ t.page ≠ s.page then patternOf t else s.pattern) ∧
      (let keep (slot : Option Slot) : Option Slot := slot.filter (fun x => x.fired || !lineClosed t (x.row / 4))
       if s.pipe.engine = .idle then
        (t.pipe = s.pipe ∧ NoRowEligible t) ∨
          (∃ x, t.pipe = { s.pipe with engine := .running, stepTimer := some 0, load := some x } ∧ x.fired = false ∧
            lineClosed t (x.row / 4) = false ∧
            (EngineStarted s t ∨
              (s.touch.lines.any (·.failed) = true ∧ statusRows s ≠ [] ∧ t.pattern ≠ s.pattern ∧
                (let found (r : Nat) : Option Job := if r ∈ statusRows s then jobAt t r else jobAt s r
                 (found x.row).map (snapshot x.row) = some x ∧
                  ∀ r < x.row, (found r).isSome = true → lineClosed t (r / 4) = true))))
       else t.pipe = { s.pipe with load := keep s.pipe.load, strike := keep s.pipe.strike }) ∧
      (let reply : Reply := { tag := tag, outcome := 1, kind := 5, code := 0, data := [] }
       (t.page = s.page ∧ t.link = linkWithReply reply (busyLink s) ∧
          (s.page.state = .working → t.pipe.engine = .idle → planEmpty t = false)) ∨
        (s.page.state = .working ∧ s.pipe.engine = .idle ∧
          t.page = { s.page with state := .settled, outcome := .done, detail := 0
                                 record := ⟨s.page.turned, .done, 0⟩ } ∧
          t.link = linkWithReply reply (enqueueAnnounce .settled (lineBusy s)).link))

/-- CLEAR_COUNTERS: R178: the twelve counters become 0 before the reply is queued, and the clash flag stays. -/
def Obligations.ClearCountersZeroesTheCounters : Prop :=
  ∀ (sender target tag : Byte) (s : State), TakesQuery s sender target →
    ∃ t, exec (.clearCounters sender target tag []) s = .next t ∧ Changes [.link] s t ∧
      t.link = linkWithReply { tag := tag, outcome := 1, kind := 7, code := 0, data := [] }
        { busyLink s with counters := ⟨0, 0, 0, 0, 0, 0, 0, 0, 0, 0, 0, 0⟩ } ∧
      t.link.clash = s.link.clash ∧
      (6 ≤ s.link.queue.length → t.link.counters.repliesDropped = 1)

/-- UNKNOWN_QUERY, and every query row with an argument its kind does not accept: R168 and R169: the reply is UNKNOWN
with result code 0, or REFUSED with result code 1 BAD_ARGUMENT, without data, and nothing but the transmit queue
changes. -/
def Obligations.UnknownAndBadQueriesChangeOnlyTheQueue : Prop :=
  ∀ (c : Instr) (sender target tag kind : Byte) (arg : List Byte) (s : State),
    frameOf c = some (sender, .query target tag kind arg) → arg.length ≤ 4 → TakesQuery s sender target →
      (kind.toNat = 0 ∨ 8 ≤ kind.toNat →
        ∃ t, exec c s = .next t ∧ Changes [.link] s t ∧
          t.link = linkWithReply { tag := tag, outcome := 3, kind := kind, code := 0, data := [] } (busyLink s)) ∧
      (((kind.toNat = 1 ∨ kind.toNat = 2) ∧ arg ≠ [0] ∧ arg ≠ [1]) ∨ (kind.toNat = 3 ∧ arg.length ≠ 1) ∨
          (4 ≤ kind.toNat ∧ kind.toNat ≤ 7 ∧ arg ≠ []) →
        ∃ t, exec c s = .next t ∧ Changes [.link] s t ∧
          t.link = linkWithReply { tag := tag, outcome := 2, kind := kind, code := 1, data := [] } (busyLink s))

/-! ### The link controller -/

/-- QUIET_GAP and DEFERRAL: R24 and R25: a ready head frame draws a slot below the window once the line has been
quiet; a line that becomes busy gives the wait up and changes neither the window nor the attempt nor any
counter.  Which slot is drawn is the model's free value (log 1), and a quiet gap cannot end while the tile drives the
line (log 7). -/
def Obligations.QuietGapDrawsASlotAndDeferralKeepsTheBackoff : Prop :=
  ∀ s : State, Running s →
    (s.link.onLine = none → ∃ t, exec .quietGap s = .next t ∧ Changes [.link, .draws] s t ∧
      if s.start.life = .joined ∧ s.link.lineUp = true ∧ s.link.queue ≠ [] ∧ s.link.wait = none then
        t.link = { s.link with quiet := true, wait := some (Config.slotDraw s.draws % s.link.window) } ∧
          t.draws = s.draws + 1 ∧ (0 < s.link.window → ∃ k, t.link.wait = some k ∧ k < s.link.window)
      else t.link = { s.link with quiet := true } ∧ t.draws = s.draws) ∧
    (s.link.onLine.isSome = true → exec .quietGap s = .next s) ∧
    (∃ t, exec .deferral s = .next t ∧ Changes [.link] s t ∧
      t.link = { s.link with quiet := false, wait := none })

/-- SLOT_BEGINS: R25, R32 and R14: at the drawn slot the head frame goes on the line under the tile's own station
number: a REPLY as it was built, a DRAW and a SETTLED with bodies of this moment; LKEN is active, and the line carries
the frame's lead and characters (R15, R16).  Without a wait the event changes nothing (log 7). -/
def Obligations.SlotStartsTheHeadFrame : Prop :=
  ∀ (s : State) (c : Settings), Running s → s.start.settings = some c →
    (∀ f q, s.link.queue = f :: q → s.start.life = .joined → s.link.lineUp = true → s.link.onLine = none →
      s.link.wait.isSome = true →
        ∃ t body, exec .slotBegins s = .next t ∧ Changes [.link] s t ∧ lken t = true ∧
          lineBits t = wireBits (frameChars c.station body) ∧
          t.link = { s.link with
            wait := none, quiet := false
            onLine := some { phase := .sending, holdsHead := true, preReset := false, sender := c.station,
                             body := body } } ∧
          body = match f with
            | .reply r => .reply r.tag r.outcome r.kind r.code r.data
            | .announce .draw _ =>
              .draw (BitVec.ofNat 8 (s.bank.demand / 50)) (BitVec.ofNat 8 c.firstLine) (BitVec.ofNat 8 c.lineCount)
                (BitVec.ofNat 8 c.firstCell) (BitVec.ofNat 8 c.cellCount) (PageState.code s.page.state)
                s.page.turned (PageOutcome.code s.page.outcome)
            | .announce .settled _ =>
              .settled s.page.record.serial (PageOutcome.code s.page.record.outcome)
                (BitVec.ofNat 16 s.page.record.detail)) ∧
    (s.link.wait = none → exec .slotBegins s = .next s)

/-- COLLISION: R27, R28, R30 and R37: the attempt jams and collisions rises; the frame retries with the attempt raised
and the window doubled, or, at the tenth attempt, is abandoned or stays as a fresh frame; of an abandoned DRAW the
rail share judges a held rise afresh (R134), and it is queued again while own demand differs (R114); a frame from
before a LINK reset is removed without retry (log 12).  Throughout the jam LKEN is active and the line is driven low,
with no further frame bits. Without an attempt being sent the event changes nothing (log 7). -/
def Obligations.CollisionRetriesOrAbandons : Prop :=
  ∀ s : State, Running s → AttemptOk s →
    ((∀ o, s.link.onLine = some o → o.phase = .jamming) → exec .collision s = .next s) ∧
    ∀ (o : OnLine) (f : QFrame) (q : List QFrame), s.link.onLine = some o → o.phase = .sending → s.link.queue = f :: q →
      ∃ t, exec .collision s = .next t ∧ lken t = true ∧ lineBits t = List.replicate 32 false ∧ t.draws = s.draws ∧
        (let jam (holds : Bool) : Option OnLine :=
          some { o with phase := .jamming, holdsHead := holds, preReset := false }
         let counters := s.link.counters.inc .collisions
         let fresh := { s.link with quiet := false, attempt := 1, window := 8 }
         if o.preReset = true then
           Changes [.link] s t ∧
             t.link = if QFrame.renewMark f then
               { fresh with queue := QFrame.unmarked f :: q, onLine := jam true, counters := counters }
             else { fresh with queue := q, onLine := jam false, counters := counters }
         else if s.link.attempt < 10 then
           Changes [.link] s t ∧
             t.link = { s.link with
               quiet := false, attempt := s.link.attempt + 1, window := min (2 * s.link.window) 256
               queue := QFrame.unmarked f :: q, onLine := jam true, counters := counters }
         else
           let ended := { fresh with counters := counters.inc .abandoned }
           Changes [.link, .rail] s t ∧
             (if QFrame.renewMark f then
               t.link = { ended with queue := QFrame.unmarked f :: q, onLine := jam true }
              else
               let gone := { ended with queue := q, onLine := jam false }
               if Body.kindCode o.body = 5 ∧ s.bank.demand ≠ s.bank.lastAnnounced then
                 t.link = (enqueueAnnounce .draw (s.withLink gone)).link ∧ Queued .draw t
               else t.link = gone) ∧
             t.rail = { s.rail with rise := t.rail.rise } ∧
             (match s.rail.rise with
              | none => t.rail.rise = none
              | some r =>
                if Body.kindCode o.body = 5 ∧ r.phase = .held ∧ s.start.life = .joined ∧
                    (s.link.lineUp = false ∨ r.awaited ≤ s.bank.lastAnnounced) then
                  t.rail.rise = some { r with phase := .settling 0 }
                else t.rail.rise = some r))

/-- JAM_END: R27, R14 and R37: the line is released after the jam, LKEN inactive and nothing driven; a frame from
before a LINK reset that still stands at the head leaves the queue (log 12); without a jam the event changes nothing
(log 7). -/
def Obligations.JamEndReleasesTheLine : Prop :=
  ∀ s : State, Running s →
    (∀ o, s.link.onLine = some o → o.phase = .jamming →
      ∃ t, exec .jamEnd s = .next t ∧ Changes [.link] s t ∧ lken t = false ∧ lineBits t = [] ∧
        t.link = if o.preReset = true ∧ o.holdsHead = true then
            { s.link with onLine := none, quiet := false, queue := s.link.queue.tail, attempt := 1, window := 8 }
          else { s.link with onLine := none, quiet := false }) ∧
    ((∀ o, s.link.onLine = some o → o.phase = .sending) → exec .jamEnd s = .next s)

/-- ATTEMPT_COMPLETES: R29, R30, R116 and R134: the frame leaves the queue, or stays as a fresh frame when its renewal
mark is set; a DRAW's demand becomes the last announced demand, a held rise it reaches is released, and a further DRAW
is queued while own demand differs. -/
def Obligations.CompletionAnnouncesTheDemand : Prop :=
  ∀ (s : State) (o : OnLine) (f : QFrame) (q : List QFrame), Running s → s.link.onLine = some o →
    o.phase = .sending → s.link.queue = f :: q → s.link.wait = none →
      ∃ t, exec .attemptCompletes s = .next t ∧
        (let l : Link := { s.link with
            onLine := none, quiet := false, attempt := 1, window := 8
            queue := if QFrame.renewMark f then QFrame.unmarked f :: q else q }
         match o.body with
         | .draw demand _ _ _ _ _ _ _ =>
           Changes [.bank, .rail, .link, .draws] s t ∧ t.draws = s.draws ∧
             t.bank = { s.bank with lastAnnounced := demand.toNat * 50 } ∧
             (if s.bank.demand = demand.toNat * 50 then t.link = l
              else t.link = (enqueueAnnounce .draw (s.withLink l)).link ∧ Queued .draw t) ∧
             t.rail = { s.rail with rise := t.rail.rise } ∧
             (match s.rail.rise with
              | none => t.rail.rise = none
              | some r =>
                if r.phase = .held ∧ s.start.life = .joined ∧
                    (s.link.lineUp = false ∨ r.awaited ≤ demand.toNat * 50) then
                  t.rail.rise = some { r with phase := .settling 0 }
                else t.rail.rise = some r)
         | _ => Changes [.link] s t ∧ t.link = l)

/-- LINK_UP: R33: in every life state the line state becomes LINK_UP, the allowance is recomputed without the cap, the
pattern is worked out, and then a ready head frame contends, the line having been released for longer than the quiet gap
(R24, R31; log 8); in CONFIG the line state and the quiet mark change and nothing else.  A line already up changes
nothing (log 7). -/
def Obligations.LinkUpLiftsTheCap : Prop :=
  ∀ s : State, Running s → StartOk s → SlotsOk s →
    (s.link.lineUp = true → exec .linkUp s = .next s) ∧
    (s.link.lineUp = false →
      ∃ t v, exec .linkUp s = .next t ∧ Changes [.rail, .link, .draws, .page, .plan, .pipe, .touch, .pattern] s t ∧
        Changes [.link, .draws] v t ∧
        PatternWorkedOut (s.withLink { s.link with lineUp := true, quiet := true }) v ∧ Contended v.link v t ∧
        t.link.lineUp = true ∧ t.link.quiet = true ∧ lken t = lken s ∧
        (onTheLink s = false → t.rail = s.rail) ∧
        (∀ c, s.start.settings = some c → onTheLink s = true → AllowanceRecomputed c s t) ∧
        (s.page.state ≠ .working → t.link = { s.link with lineUp := true, quiet := true, wait := t.link.wait }) ∧
        (s.start.settings = none → PatternOk s →
          Changes [.link] s t ∧ t.link = { s.link with lineUp := true, quiet := true }))

/-- LINK_DOWN: R33, R34, R129 and R136: in every life state an attempt on the line ends, with the effect of its
collision (R28) if it was being sent and of its jam's end if it jammed; the drivers are released, the wait is given up,
the line state becomes LINK_DOWN, the allowance is recomputed under the cap F, so that the applied allowance is at most
F, and the pattern is worked out; in CONFIG, where no attempt is on the line, the line state and the quiet mark change
and nothing else.  A line already down changes nothing (log 7). -/
def Obligations.LinkDownCapsTheAllowance : Prop :=
  ∀ s : State, Running s → StartOk s → SlotsOk s →
    (s.link.lineUp = false → exec .linkDown s = .next s) ∧
    (s.link.lineUp = true →
      ∃ t u, exec .linkDown s = .next t ∧ Changes [.rail, .link, .draws, .page, .plan, .pipe, .touch, .pattern] s t ∧
        (match s.link.onLine with
         | none => u = s
         | some o => exec (match o.phase with | .sending => .collision | .jamming => .jamEnd) s = .next u) ∧
        (let w := u.withLink { u.link with onLine := none, lineUp := false, quiet := false, wait := none }
         PatternWorkedOut w t ∧ (onTheLink s = false → t.rail = w.rail) ∧
           ∀ c, s.start.settings = some c → onTheLink s = true → AllowanceRecomputed c w t) ∧
        t.link.lineUp = false ∧ t.link.onLine = none ∧ lken t = false ∧ t.link.wait = none ∧
        t.link.clash = s.link.clash ∧ t.draws = s.draws ∧
        (∀ o, s.link.onLine = some o →
          t.link.counters.collisions =
            if o.phase = .sending then bump s.link.counters.collisions else s.link.counters.collisions) ∧
        (s.link.onLine = none → t.link.counters.collisions = s.link.counters.collisions) ∧
        (∀ c, s.start.settings = some c → onTheLink s = true →
          t.rail.computed = min (computeAllowance c s.bank.demand s.rail.view true) (floorShare c) ∧
          t.rail.applied ≤ floorShare c ∧ t.rail.applied ≤ s.rail.applied ∧
          (s.start.life = .joined → ∀ r, t.rail.rise = some r → r.phase ≠ .held)) ∧
        (s.start.settings = none → s.link.onLine = none → PatternOk s →
          Changes [.link] s t ∧ t.link = { s.link with lineUp := false, quiet := false, wait := none }))

/-! ### Timers of the pipeline, the bank and the rail share -/

/-- STEP_TIMER_EXPIRY: R93 and R95 to R97, R90 and R91: fired rows move on one stage, an unfired row in STRIKE stays
with the row behind it, a row entering STRIKE fires exactly when its line is open and the bank covers its cost, which
is then paid, own demand following (R113); a RUNNING engine with an empty LOAD admits the lowest row that waits; a
fence lifts, or the engine stops, only with every slot empty; and the step that leaves the engine IDLE with an empty
plan settles a WORKING page (R56, R57).  That the pulse of an earlier strike is over at the next step is the model's
choice (log 5).  A timer short of its 6 ms does not expire (log 4). -/
def Obligations.StepMovesEachRowOneStage : Prop :=
  ∀ (sensed : PinSet) (s : State) (c : Settings), Running s → s.start.settings = some c →
    (Timer.due 6 s.pipe.stepTimer = false → exec (.stepTimerExpiry sensed) s = .next s) ∧
    (Timer.due 6 s.pipe.stepTimer = true → StartOk s → EngineOk s → SlotsOk s → BankOk s →
      ∃ t, exec (.stepTimerExpiry sensed) s = .next t ∧
        Changes [.link, .draws, .page, .plan, .pipe, .touch, .pattern, .bank, .rail, .shown] s t ∧
        t.pipe.sense = s.pipe.settle ∧ t.pipe.settle = keepFired s.pipe.strike ∧
        (let stalled := s.pipe.strike.filter (fun x => !x.fired)
         let entering := if stalled.isSome then none else s.pipe.load
         let fires (x : Slot) : Bool := !lineClosed s (x.row / 4) && decide (x.cost ≤ s.bank.charge)
         t.pipe.strike = stalled.or (entering.map (fun x => { x with fired := fires x })) ∧
         t.pipe.matrix = (entering.filter fires).map (fun x => ⟨x.row, x.moves, x.level⟩) ∧
         t.bank.charge = s.bank.charge - ((entering.filter fires).map (·.cost)).getD 0 ∧
         t.bank.railTimer = s.bank.railTimer ∧ t.bank.transfer = s.bank.transfer ∧
         t.bank.lastAnnounced = s.bank.lastAnnounced ∧ BankOk t ∧
         (stalled.isSome = true → s.pipe.load.isSome = true → t.pipe.load = s.pipe.load) ∧
         (t.pipe.engine = .running → ¬(stalled.isSome = true ∧ s.pipe.load.isSome = true) → Admitted t) ∧
         (match entering.filter fires with
          | some x =>
            DemandFollows c (s.withBank { s.bank with charge := s.bank.charge - x.cost }) t ∧ t.page = s.page ∧
              t.pattern = s.pattern
          | none =>
            t.bank = s.bank ∧ t.rail = s.rail ∧
              ((NotSettled s t ∧ t.pattern = s.pattern) ∨
                (Settles s.pattern s t ∧ t.pattern = patternOf t ∧ s.pipe.load = none ∧ s.pipe.strike = none ∧
                  s.pipe.settle = none)))) ∧
        (s.pipe.engine = .fenced → slotsEmpty t = false → t.pipe.engine = .running → s.pipe.settle = none ∧
          s.pipe.strike = none) ∧
        (s.pipe.engine = .running → t.pipe.engine ≠ .fenced) ∧
        (t.pipe.engine = .fenced → slotsEmpty t = false) ∧
        (t.pipe.engine = .idle → slotsEmpty t = true ∧ NoRowEligible t ∧ t.pipe.stepTimer = none) ∧
        (t.pipe.engine ≠ .idle → slotsEmpty t = false ∧ t.pipe.stepTimer = some 0) ∧
        t.touch = { s.touch with
          holdPhase := t.touch.holdPhase
          driftTimer := if t.pipe.engine = .idle ∧ s.start.life = .joined then some 0 else none })

/-- STEP_TIMER_EXPIRY: R94 and R76: the row in SENSE is sensed into SHOWN and recomputed, touch-voided exactly when
its line is closed, and the hold condition is judged; every other pin of SHOWN and every other job stays, and with
SENSE empty neither SHOWN nor the fault map changes.  A step that settles the page leaves no job, but for those of the
status rows where the settle changes the pattern (R162). -/
def Obligations.StepSensesTheSenseRow : Prop :=
  ∀ (sensed : PinSet) (s : State), Running s → Timer.due 6 s.pipe.stepTimer = true → StartOk s → EngineOk s → SizesOk s →
    ∃ t, exec (.stepTimerExpiry sensed) s = .next t ∧
      (match s.pipe.sense with
       | none => t.shown = s.shown ∧ t.plan.faults = s.plan.faults ∧
          (t.page = s.page → t.plan = s.plan ∧ t.touch.holdPhase = s.touch.holdPhase)
       | some x =>
        (∀ r p, r < rowCount s → p < colCount s → pinUp t.shown (cellCount s) r p =
          if r = x.row then sensed.getLsbD p else pinUp s.shown (cellCount s) r p) ∧
        t.shown.length = s.shown.length ∧ HoldJudged s t ∧
        (∃ u, u = recomputeRow x.row x.moves x.attempt (lineClosed s (x.row / 4)) (senseRow x.row sensed s) ∧
          t.plan.faults = u.plan.faults ∧ (t.page = s.page → jobAt t x.row = jobAt u x.row)) ∧
        (t.page = s.page → ∀ r, r ≠ x.row → jobAt t r = jobAt s r)) ∧
      (t.page ≠ s.page → ∀ r, jobAt t r = if r ∈ statusRows s ∧ t.pattern ≠ s.pattern then freshJob t r else none)

/-- RAIL_PERIOD: R110, R111, R113 and R98: the gain is the smaller of the applied allowance and the room left; a gain
makes own demand follow the charge and then an unfired row in STRIKE try to fire, which is paid for, own demand
following again; a gain of 0 is no rise.  A timer short of its 10 ms does not expire (log 4). -/
def Obligations.RailPeriodRefillsTheBank : Prop :=
  (∀ charge, demandOf charge % 50 = 0 ∧ min 600 (4000 - charge) ≤ demandOf charge ∧
    demandOf charge < min 600 (4000 - charge) + 50) ∧
  ∀ (s : State) (c : Settings), Running s → s.start.settings = some c →
    (Timer.due 10 s.bank.railTimer = false → exec .railPeriod s = .next s) ∧
    (Timer.due 10 s.bank.railTimer = true → BankOk s →
      ∃ t v, exec .railPeriod s = .next t ∧ Changes [.pipe, .bank, .rail, .link, .draws] s t ∧
        (let g := min s.rail.applied (4000 - s.bank.charge)
         let fires (x : Slot) : Bool :=
          decide (0 < g) && !x.fired && !lineClosed s (x.row / 4) && decide (x.cost ≤ s.bank.charge + g)
         let fired := s.pipe.strike.filter fires
         let gained := s.withBank { s.bank with railTimer := some 0, transfer := g, charge := s.bank.charge + g }
         t.bank.railTimer = some 0 ∧ t.bank.transfer = g ∧ t.bank.lastAnnounced = s.bank.lastAnnounced ∧
         t.bank.charge = s.bank.charge + g - (fired.map (·.cost)).getD 0 ∧ BankOk t ∧
         t.pipe = { s.pipe with
           strike := (fired.map (fun x => { x with fired := true })).or s.pipe.strike
           matrix := (fired.map (fun x => ⟨x.row, x.moves, x.level⟩)).or s.pipe.matrix } ∧
         Changes [.bank, .rail, .link, .draws] s v ∧ DemandFollows c gained v ∧
         (match fired with
          | none => Changes [.pipe] v t
          | some x => DemandFollows c (v.withBank { v.bank with charge := v.bank.charge - x.cost }) t) ∧
         t.rail.view = s.rail.view ∧ t.rail.refreshTimer = s.rail.refreshTimer ∧
         (g = 0 → t.rail = s.rail ∧ t.link = s.link) ∧
         (t.bank.demand ≠ s.bank.demand → t.bank.demand ≠ s.bank.lastAnnounced → Queued .draw t)))

/-- DRAW_REFRESH_TIMER_EXPIRY: R115 with the queue's rule R30: a DRAW joins the tail, with room made by removing the
oldest REPLY not on the line, whose wait is given up if it was the head (R26), or renews the DRAW that is queued; a new
head frame that is ready contends on a quiet line, its slot the free value of log 1.  A timer short of its 500 ms does
not expire (log 4).  The same rule places a DRAW or a SETTLED whichever event queues it. -/
def Obligations.RefreshQueuesADraw : Prop :=
  (∀ s : State, Running s → QueueOk s →
    (Timer.due 500 s.rail.refreshTimer = false → exec .drawRefreshTimerExpiry s = .next s) ∧
    (Timer.due 500 s.rail.refreshTimer = true →
      ∃ t, exec .drawRefreshTimerExpiry s = .next t ∧ Changes [.rail, .link, .draws] s t ∧
        t.rail = { s.rail with refreshTimer := some 0 } ∧ AnnounceQueued .draw s t)) ∧
  ∀ (k : Announce) (s : State), QueueOk s →
    ∃ t, t = enqueueAnnounce k s ∧ Changes [.link, .draws] s t ∧ AnnounceQueued k s t

/-- SETTLE_TIMER_EXPIRY: R132: with the settle timer at 20 ms the applied allowance becomes the target of the rise and
the rise is cleared.  A rise whose timer a recomputation has started afresh, a held rise and no rise are left alone
(R132, logs 4 and 7). -/
def Obligations.SettleExpiryRaisesTheAllowance : Prop :=
  ∀ s : State, Running s →
    (∀ r n, s.rail.rise = some r → r.phase = .settling n →
      (20 ≤ n → ∃ t, exec .settleTimerExpiry s = .next t ∧ Changes [.rail] s t ∧
        t.rail = { s.rail with applied := r.target, rise := none }) ∧
      (n < 20 → exec .settleTimerExpiry s = .next s)) ∧
    ((∀ r, s.rail.rise = some r → r.phase = .held) → exec .settleTimerExpiry s = .next s)

/-- ENTRY_EXPIRY: R123 and R126: at its deadline the station's entry leaves the view, the pattern is worked out, and
the allowance is recomputed without it.  An entry that a DRAW has renewed stays, and a station not in the view changes
nothing (R123, logs 4 and 7). -/
def Obligations.EntryExpiryForgetsTheStation : Prop :=
  ∀ (st : Byte) (s : State) (c : Settings), Running s → s.start.settings = some c → onTheLink s = true →
    ((∀ e ∈ s.rail.view, e.station = st → e.remaining ≠ 0) → exec (.entryExpiry st) s = .next s) ∧
    ((∃ e ∈ s.rail.view, e.station = st ∧ e.remaining = 0) → StartOk s → SlotsOk s →
      ∃ t, exec (.entryExpiry st) s = .next t ∧
        Changes [.rail, .link, .draws, .page, .plan, .pipe, .touch, .pattern] s t ∧
        t.rail.view = s.rail.view.filter (fun e => e.station != st) ∧ inView t.rail.view st = false ∧
        AllowanceRecomputed c (s.withRail { s.rail with view := t.rail.view }) t ∧
        PatternWorkedOut (s.withRail { s.rail with view := t.rail.view }) t)

/-! ### The touch guard -/

/-- PRESENCE_BEGINS, PRESENCE_ENDS, ARRIVAL_FILTER_EXPIRY and DEPARTURE_FILTER_EXPIRY: the table of R143 with the
presence timer of R146; a filter expires 30 ms and 200 ms after its start; a line is closed while its guard state is not
CLEAR and its strip not FAILED (R89, R142).  That an event which the guard state rules out, a filter short of its time,
or an event of a strip outside the rectangle (R8) changes nothing is the model's choice (logs 4 and 7); other lines stay
as they are. -/
def Obligations.GuardStatesFollowTheirTable : Prop :=
  (∀ (s : State) (l : Nat), lineClosed s l = true ↔
    ∃ g, s.touch.lines[l]? = some g ∧ g.guard ≠ .clear ∧ g.failed = false) ∧
  (∀ (strip : Fin 6) (c : Instr) (s : State), Running s → s.touch.lines[strip.val]? = none →
    c = .presenceBegins strip ∨ c = .presenceEnds strip ∨ c = .arrivalFilterExpiry strip ∨
      c = .departureFilterExpiry strip ∨ c = .presenceTimerExpiry strip → exec c s = .next s) ∧
  ∀ (strip : Fin 6) (g : LineGuard) (s : State), Running s → s.touch.lines[strip.val]? = some g →
    (let goes (c : Instr) (g' : LineGuard) : Prop :=
      ∃ t, exec c s = .next t ∧ Changes [.touch, .pipe] s t ∧ t.touch.lines = s.touch.lines.set strip.val g'
     let started : Timer := if g.failed then g.presence else some 0
     goes (.presenceBegins strip) (match g.guard with
       | .clear => { g with guard := .arriving, arrival := some 0, presence := started }
       | .leaving => { g with guard := .touched, departure := none, presence := started }
       | .arriving => g
       | .touched => g) ∧
     goes (.presenceEnds strip) (match g.guard with
       | .arriving => { g with guard := .clear, arrival := none, presence := none }
       | .touched => { g with guard := .leaving, departure := some 0, presence := none }
       | .clear => g
       | .leaving => g) ∧
     goes (.arrivalFilterExpiry strip) (match g.guard with
       | .arriving => if Timer.due 30 g.arrival = true then { g with guard := .touched, arrival := none } else g
       | .clear => g
       | .touched => g
       | .leaving => g) ∧
     goes (.departureFilterExpiry strip) (match g.guard with
       | .leaving => if Timer.due 200 g.departure = true then { g with guard := .clear, departure := none } else g
       | .clear => g
       | .arriving => g
       | .touched => g))

/-- R145, R100 and R101, for the four guard events, in every life state (R141): a line that closes loses its unfired
rows from LOAD and STRIKE and no other; a line that opens makes an IDLE engine look for a row, whose start stops the
drift timer (R105); the hold condition is judged after either (R149), and the accumulated hold time and the rotation
pointer stay; a line that stays open or closed hands on nothing. -/
def Obligations.LinesThatCloseOrOpenAreHandedOn : Prop :=
  ∀ (strip : Fin 6) (c : Instr) (s : State), Running s → SlotsOk s →
    c = .presenceBegins strip ∨ c = .presenceEnds strip ∨ c = .arrivalFilterExpiry strip ∨
      c = .departureFilterExpiry strip →
      ∃ t, exec c s = .next t ∧ Changes [.touch, .pipe] s t ∧
        (let drop (slot : Option Slot) : Option Slot := slot.filter (fun x => x.fired || x.row / 4 != strip.val)
         match lineClosed s strip.val, lineClosed t strip.val with
         | false, true =>
           t.pipe = { s.pipe with load := drop s.pipe.load, strike := drop s.pipe.strike } ∧
             t.touch = { s.touch with lines := t.touch.lines, holdPhase := t.touch.holdPhase } ∧ HoldJudged s t
         | true, false => HandedOn (s.withTouch { s.touch with lines := t.touch.lines }) t
         | _, _ => t.pipe = s.pipe ∧ t.touch = { s.touch with lines := t.touch.lines })

/-- PRESENCE_TIMER_EXPIRY: R146: with the timer at 600 s the strip is FAILED with its presence timer stopped, so its
line is open; the guard state is kept, the pattern is worked out, and, if the line was closed, its opening is handed
on (R145).  A timer that is stopped or short of its time does not expire (logs 4 and 7). -/
def Obligations.PresenceExpiryFailsTheStrip : Prop :=
  ∀ (strip : Fin 6) (g : LineGuard) (s : State), Running s → s.touch.lines[strip.val]? = some g →
    (Timer.due 600000 g.presence = false → exec (.presenceTimerExpiry strip) s = .next s) ∧
    (Timer.due 600000 g.presence = true → StartOk s → SlotsOk s →
      ∃ t v, exec (.presenceTimerExpiry strip) s = .next t ∧
        Changes [.link, .draws, .page, .plan, .pipe, .touch, .pattern] s t ∧
        t.touch.lines = s.touch.lines.set strip.val { g with failed := true, presence := none } ∧
        lineClosed t strip.val = false ∧ t.touch.rotation = s.touch.rotation ∧ t.pattern = patternOf t ∧
        PatternWorkedOut (s.withTouch { s.touch with lines := t.touch.lines }) v ∧
        (if lineClosed s strip.val = true then Changes [.pipe, .touch] v t ∧ HandedOn v t else t = v) ∧
        (g.guard ≠ .clear → g.failed = false → s.pipe.engine = .idle → onTheLink s = true →
          t.pipe.engine = .running ∨ NoRowEligible t))

/-- HOLD_LIMIT_EXPIRY: R150 and R58: a RUNNING hold timer becomes EXPIRED at H; a page that is WORKING with its held
mark clear becomes HELD, with the mask of the lines held, announced once; otherwise the report is disregarded; a timer
that is not RUNNING, or short of H, does not expire (logs 4 and 7).  A line is held while it is closed and the plan
holds a job for one of its rows (R148). -/
def Obligations.HoldExpiryReportsTheHeldLines : Prop :=
  (∀ s : State, (∀ l, lineHeld s l = true ↔ lineClosed s l = true ∧ ∃ r, r / 4 = l ∧ (jobAt s r).isSome = true) ∧
    (holdCondition s = true ↔ ∃ l < lineCount s, lineHeld s l = true)) ∧
  ∀ s : State, Running s →
    (s.touch.holdPhase ≠ .running ∨ s.touch.holdTime < holdLimitMs s → exec .holdLimitExpiry s = .next s) ∧
    (s.touch.holdPhase = .running → holdLimitMs s ≤ s.touch.holdTime →
      ∃ t mask, exec .holdLimitExpiry s = .next t ∧
        Changes [.link, .draws, .page, .plan, .pipe, .touch, .pattern] s t ∧
        (∀ l, mask.testBit l = (decide (l < lineCount s) && lineHeld s l)) ∧
        (s.page.state = .working → s.page.heldMark = false → PatternOk s → PageStateOk s →
          t.page = { s.page with outcome := .held, detail := mask, heldMark := true
                                 record := ⟨s.page.turned, .held, mask⟩ } ∧
            Queued .settled t ∧ t.link = (enqueueAnnounce .settled s).link ∧ t.pattern = s.pattern ∧
            t.plan = s.plan ∧ t.pipe = s.pipe ∧
            t.touch = { s.touch with holdPhase := .expired, holdTime := holdLimitMs s }) ∧
        (s.page.state ≠ .working ∨ s.page.heldMark = true →
          Changes [.touch] s t ∧ t.touch = { s.touch with holdPhase := .expired, holdTime := holdLimitMs s }))

/-- DRIFT_TIMER_EXPIRY: R152 and R153: with the timer at 2 s the first open line from the rotation pointer on is
sensed into SHOWN, pin by pin, its rows refreshed (R73, R74), the pointer moved past it and the notices given (R66);
with every line closed nothing is scanned.  That the engine admits one of the scan's jobs in this same event follows
R153, R92 and R100 where R154 reads otherwise (log 21).  A timer that is stopped or short of its time does not expire
(R154, logs 4 and 7). -/
def Obligations.DriftScanSensesTheNextOpenLine : Prop :=
  ∀ (r0 r1 r2 r3 : PinSet) (s : State), Running s → StartOk s → SlotsOk s → SizesOk s →
    (Timer.due 2000 s.touch.driftTimer = false → exec (.driftTimerExpiry r0 r1 r2 r3) s = .next s) ∧
    (Timer.due 2000 s.touch.driftTimer = true →
      ((∀ l < lineCount s, lineClosed s l = true) →
        ∃ t, exec (.driftTimerExpiry r0 r1 r2 r3) s = .next t ∧ Changes [.touch] s t ∧
          t.touch = { s.touch with driftTimer := some 0 }) ∧
      (∀ i l, i < lineCount s → l = (s.touch.rotation + i) % lineCount s → lineClosed s l = false →
        (∀ k < i, lineClosed s ((s.touch.rotation + k) % lineCount s) = true) →
          ∃ t, exec (.driftTimerExpiry r0 r1 r2 r3) s = .next t ∧
            Changes [.link, .draws, .page, .plan, .pipe, .touch, .pattern, .shown] s t ∧
            (∀ r p, r < rowCount s → p < colCount s → pinUp t.shown (cellCount s) r p =
              if r = 4 * l then r0.getLsbD p else if r = 4 * l + 1 then r1.getLsbD p
              else if r = 4 * l + 2 then r2.getLsbD p else if r = 4 * l + 3 then r3.getLsbD p
              else pinUp s.shown (cellCount s) r p) ∧
            t.shown.length = s.shown.length ∧ t.plan.faults = s.plan.faults ∧
            HandedOn (s.withTouch { s.touch with rotation := (l + 1) % lineCount s, driftTimer := some 0 }) t ∧
            ((NotSettled s t ∧ t.pattern = s.pattern ∧
                ∀ r, jobAt t r = if r / 4 = l then refreshedJob s t r else jobAt s r) ∨
              (Settles s.pattern s t ∧ s.pipe.engine = .idle ∧ t.pattern = patternOf t ∧
                ∀ r, jobAt t r = if r ∈ statusRows s ∧ t.pattern ≠ s.pattern then freshJob t r else none))))

/-! ### The strike plan, costs and shares -/

/-- R76 to R79: the recompute after a sense, by whether it was touch-voided, the diff and the attempt of the strike: the
job written, the pins that become WEAK for having moved home, and those that become STUCK.  The diff is R68's, pin by
pin: the pins of the rectangle that are not STUCK and whose SHOWN position differs from TARGET_eff, the status cell's
byte in TARGET_eff being the pattern's (R12); one diff lies within another, and is empty, pin by pin.  R57: the count of
the pins STUCK off TARGET_eff. -/
def Obligations.RecomputeJudgesTheStrike : Prop :=
  (∀ s : State, StartOk s → SizesOk s →
    (let up (img : Image) (r p : Nat) : Bool :=
      (img.getD (r / 4 * cellCount s + p / 2) 0).getLsbD (if r % 4 = 3 then 6 + p % 2 else r % 4 + 3 * (p % 2))
     let target (r p : Nat) : Bool :=
      if statusCell s = some (r / 4, p / 2) then
        (Pattern.byte s.pattern).getLsbD (if r % 4 = 3 then 6 + p % 2 else r % 4 + 3 * (p % 2))
      else up s.page.target r p
     let fault (r p : Nat) : PinFault := s.plan.faults.getD (r * colCount s + p) .ok
     let stuck (r p : Nat) : Bool := fault r p == .stuckUp || fault r p == .stuckDown
     (∀ r p, (diff s r).raise.getLsbD p =
        (decide (r < rowCount s) && decide (p < colCount s) && !stuck r p && !up s.shown r p && target r p) ∧
      (diff s r).lower.getLsbD p =
        (decide (r < rowCount s) && decide (p < colCount s) && !stuck r p && up s.shown r p && !target r p)) ∧
     stuckOffCount s = ((List.range (rowCount s)).map (fun r =>
      (List.range (colCount s)).countP (fun p => stuck r p && (up s.shown r p != target r p)))).sum)) ∧
  (∀ a b : Moves,
    (a.within b = true ↔
      ∀ p, (a.raise.getLsbD p = true → b.raise.getLsbD p = true) ∧ (a.lower.getLsbD p = true → b.lower.getLsbD p = true)) ∧
    (a.isEmpty = true ↔ ∀ p, a.raise.getLsbD p = false ∧ a.lower.getLsbD p = false)) ∧
  ∀ (r : Nat) (m : Moves) (attempt : Nat) (s : State), r < rowCount s → SizesOk s → rowCount s ≤ 24 →
    1 ≤ attempt → attempt ≤ 3 →
      (∃ t, t = recomputeRow r m attempt true s ∧ Changes [.plan] s t ∧ t.plan.faults = s.plan.faults ∧
        (∀ r', r' ≠ r → jobAt t r' = jobAt s r') ∧
        jobAt t r = if (diff s r).isEmpty then none
          else
            let a := if (diff s r).within m then attempt else 1
            some { moves := diff s r, attempt := a, level := levelAt (baseLevel s r (diff s r)) a }) ∧
      (∃ t, t = recomputeRow r m attempt false s ∧ Changes [.plan] s t ∧ (∀ r', r' ≠ r → jobAt t r' = jobAt s r') ∧
        (∀ r' p, r' < rowCount s → p < colCount s →
          faultAt t r' p =
            (let home := attempt ≠ 1 ∧
              ((m.raise.getLsbD p = true ∧ (shownRow s r).getLsbD p = true ∧ (targetRow s r).getLsbD p = true) ∨
                (m.lower.getLsbD p = true ∧ (shownRow s r).getLsbD p = false ∧ (targetRow s r).getLsbD p = false))
             let given := (diff s r).isEmpty = false ∧ (diff s r).within m = true ∧ attempt = 3
             if r' ≠ r then faultAt s r' p
             else if given ∧ (diff s r).raise.getLsbD p = true then .stuckDown
             else if given ∧ (diff s r).lower.getLsbD p = true then .stuckUp
             else if home ∧ faultAt s r p = .ok then .weak
             else faultAt s r p)) ∧
        jobAt t r =
          if (diff s r).isEmpty then none
          else if (diff s r).within m then
            if attempt = 3 then none
            else some { moves := diff s r, attempt := attempt + 1
                        level := levelAt (baseLevel t r (diff s r)) (attempt + 1) }
          else some { moves := diff s r, attempt := 1, level := baseLevel t r (diff s r) })

/-- R69 and R70: the levels of a written job by base level and attempt, HARD at attempt 3 always; and the cost of a
strike with k at 2, 3 and 4: exact without rounding, and for a job of disjoint sets from 48 cu, for one pin lowered at
NORMAL, to 520 cu, for twenty raised at HARD. -/
def Obligations.LevelsAndCostsOfAStrike : Prop :=
  (levelAt .normal 1 = .normal ∧ levelAt .normal 2 = .firm ∧ levelAt .firm 1 = .firm ∧ levelAt .firm 2 = .hard ∧
    ∀ base, levelAt base 3 = .hard) ∧
  (∀ (s : State) (r : Nat) (m : Moves), colCount s ≤ 20 →
    baseLevel s r m =
      if ∃ p < colCount s, m.struck.getLsbD p = true ∧ faultAt s r p = .weak then .firm else .normal) ∧
  (Level.factor .normal = 2 ∧ Level.factor .firm = 3 ∧ Level.factor .hard = 4) ∧
  (strikeCost ⟨0, 1⟩ .normal = 48 ∧ strikeCost ⟨0xFFFFF, 0⟩ .hard = 520) ∧
  ∀ (m : Moves) (level : Level), 40 ≤ strikeCost m level ∧
    2 * (strikeCost m level - 40) = (12 * pinCount m.raise + 8 * pinCount m.lower) * level.factor ∧
    (m.raise &&& m.lower = 0#20 → m.isEmpty = false → 48 ≤ strikeCost m level ∧ strikeCost m level ≤ 520)

/-- R128: the three cases of the computed allowance over the demand set of R127, with no division by 0; it is at most
own demand, and at most own floor part in case 2; case 2 arises only when live exceeds P − 1; and the allowance with
the shares of all the others never exceeds L_eff.  While the line is down it is capped at F. -/
def Obligations.SharesNeverExceedTheRail : Prop :=
  ∀ (c : Settings) (own : Nat) (view : List PeerEntry), 1 ≤ c.tileCount → 600 ≤ c.railLimit → own ≤ 600 →
    (let demands := demandSet own c.tileCount view
     let lEff := c.railLimit - c.railLimit / 16
     let f := lEff / (2 * c.tileCount)
     let floorPart (x : Nat) := min x f
     let d := demands.sum
     let m := (demands.map floorPart).sum
     let e := (demands.map (fun x => x - floorPart x)).sum
     let share (x : Nat) : Nat :=
      if d ≤ lEff then x
      else if lEff ≤ m then lEff * floorPart x / m
      else floorPart x + (lEff - m) * (x - floorPart x) / e
     let a := computeAllowance c own view true
     demands = own :: (view.map (·.demand) ++ List.replicate (c.tileCount - 1 - view.length) 600) ∧
       563 ≤ lEff ∧ a = share own ∧ a ≤ own ∧ (a :: (demands.tail.map share)).sum ≤ lEff ∧
       (lEff < d → lEff ≤ m → c.tileCount - 1 < view.length ∧ a ≤ floorPart own) ∧
       (lEff < d → m < lEff → e = d - m ∧ lEff - m < e) ∧
       computeAllowance c own view false = min a f)

/-! ### The whole tile -/

/-- Which commands can change what outlives a page (R111, R112, R106, R82, R186): the bank charge, SHOWN, the fault
map and the settings in force.  The model's own are that a DISCARDED_FRAME row may stand among them, since one whose
readings are those of a CLEAR_FAULTS query acts as that query (log 9), that any query row of that kind acts so (log
9), and that END_OF_CONFIG changes nothing outside CONFIG (log 7). -/
def Obligations.OnlyTheseCommandsChangeWhatOutlivesAPage : Prop :=
  ∀ (c : Instr) (s t : State), exec c s = .next t →
    (∀ straps, c ≠ .powerOn straps ∧ c ≠ .resetPinReleased straps) → c ≠ .resetPinAsserted →
      (t.bank.charge ≠ s.bank.charge → c = .railPeriod ∨ ∃ x, c = .stepTimerExpiry x) ∧
      (t.shown ≠ s.shown → (∃ x, c = .stepTimerExpiry x) ∨ (∃ a b d e, c = .driftTimerExpiry a b d e) ∨
        (∃ x, c = .scanComplete x) ∨ ∃ m x, c = .endOfConfig m x) ∧
      (t.start.settings ≠ s.start.settings → s.start.life = .config ∧ ∃ m x, c = .endOfConfig m x) ∧
      (t.plan.faults ≠ s.plan.faults → (∃ x, c = .stepTimerExpiry x) ∨ (∃ m x, c = .endOfConfig m x) ∨
        (∃ h, c = .discardedFrame h) ∨ ∃ sender target tag arg, frameOf c = some (sender, .query target tag 5 arg))

/-- Every step keeps the link controller's rules: at most 6 frames, one DRAW and one SETTLED in the queue (R30), the
attempt in 1 to 10 and the window in 8 to 256, a wait only for a ready frame with a slot below the window (R25, R26),
a frame being sent at the head of the queue with a body of its kind (R27, R32, R37), and every counter in 0 to 65535
(R35). -/
def Obligations.EveryStepKeepsTheLinkController : Prop :=
  ∀ s t : State, QueueOk s ∧ BackoffOk s ∧ AttemptOk s ∧ CountersOk s → step s = .next t →
    QueueOk t ∧ BackoffOk t ∧ AttemptOk t ∧ CountersOk t

/-- Every step keeps the bank and the rail share: the charge in 0 to 4000 with own demand worked out from it (R108,
R113), the view's entries (R120, R125) in the order of their deadlines (log 10), the computed allowance the one that
own demand, the view and the line state give (R130), the applied allowance never above it, nor above F while the line
is down, nor above 0 while LISTENING, with a pending rise's target the computed allowance (R131, R135), and the
settings in their ranges (R3, R185). -/
def Obligations.EveryStepKeepsTheBankAndTheRailShare : Prop :=
  ∀ s t : State, StartOk s ∧ BankOk s ∧ ViewOk s ∧ AllowanceOk s → step s = .next t →
    StartOk t ∧ BankOk t ∧ ViewOk t ∧ AllowanceOk t

/-- Every step keeps the page and the plan: image, map and guard sizes (R9, R82, R142), S newer than T and e at most
4096 (R42, R45), IDLE only while T is 0 (R54), every job a legal one (R65), the current pattern the one its inputs
give (R161), a WORKING page only while there is a job or the engine works (R56), and no work begun before LISTENING
(R187). -/
def Obligations.EveryStepKeepsThePageAndThePlan : Prop :=
  ∀ s t : State,
    StartOk s ∧ SizesOk s ∧ StagingOk s ∧ PageStateOk s ∧ PlanOk s ∧ PatternOk s ∧ WorkOk s ∧ BeforeListeningOk s →
      SlotsOk s → step s = .next t →
        StartOk t ∧ SizesOk t ∧ StagingOk t ∧ PageStateOk t ∧ PlanOk t ∧ PatternOk t ∧ WorkOk t ∧ BeforeListeningOk t

/-- Every step keeps the pipeline and the touch guard: the step timer runs exactly outside IDLE (R87), the drift timer
exactly while JOINED and IDLE (R151), the slots are as R86, R88, R91, R100 and R102 say, a line's filters and presence
timer run only in their states (R142, R146), and the hold time lies in 0 to H (R148). -/
def Obligations.EveryStepKeepsThePipelineAndTheTouchGuard : Prop :=
  ∀ s t : State, StartOk s ∧ EngineOk s ∧ SlotsOk s ∧ TouchOk s ∧ HoldOk s → PlanOk s → step s = .next t →
    StartOk t ∧ EngineOk t ∧ SlotsOk t ∧ TouchOk t ∧ HoldOk t

/-- The tile right after reset meets every invariant above. -/
def Obligations.ResetMeetsEveryInvariant : Prop :=
  QueueOk State.reset ∧ BackoffOk State.reset ∧ AttemptOk State.reset ∧ CountersOk State.reset ∧
    StartOk State.reset ∧ BankOk State.reset ∧ BeforeListeningOk State.reset ∧ ViewOk State.reset ∧
    AllowanceOk State.reset ∧ SizesOk State.reset ∧ StagingOk State.reset ∧ PageStateOk State.reset ∧
    PlanOk State.reset ∧ PatternOk State.reset ∧ WorkOk State.reset ∧ EngineOk State.reset ∧ SlotsOk State.reset ∧
    TouchOk State.reset ∧ HoldOk State.reset
end

