-- ==== Sys2Proof/Laws/State.lean ====
section
/-!
SUPPORT. The block updates of State: one lemma per block per update, and a second update of the same block.
-/

set_option Elab.async false

namespace Sys2Proof.Machine

variable (s : State)

/-! `withPending` -/

@[simp] theorem State.withPending_pending (q : List Instr) : (s.withPending q).pending = q := rfl
@[simp] theorem State.withPending_resetHeld (q : List Instr) : (s.withPending q).resetHeld = s.resetHeld := rfl
@[simp] theorem State.withPending_start (q : List Instr) : (s.withPending q).start = s.start := rfl
@[simp] theorem State.withPending_link (q : List Instr) : (s.withPending q).link = s.link := rfl
@[simp] theorem State.withPending_page (q : List Instr) : (s.withPending q).page = s.page := rfl
@[simp] theorem State.withPending_plan (q : List Instr) : (s.withPending q).plan = s.plan := rfl
@[simp] theorem State.withPending_pipe (q : List Instr) : (s.withPending q).pipe = s.pipe := rfl
@[simp] theorem State.withPending_shown (q : List Instr) : (s.withPending q).shown = s.shown := rfl
@[simp] theorem State.withPending_bank (q : List Instr) : (s.withPending q).bank = s.bank := rfl
@[simp] theorem State.withPending_rail (q : List Instr) : (s.withPending q).rail = s.rail := rfl
@[simp] theorem State.withPending_touch (q : List Instr) : (s.withPending q).touch = s.touch := rfl
@[simp] theorem State.withPending_pattern (q : List Instr) : (s.withPending q).pattern = s.pattern := rfl
@[simp] theorem State.withPending_draws (q : List Instr) : (s.withPending q).draws = s.draws := rfl
@[simp] theorem State.withPending_withPending (q q2 : List Instr) : (s.withPending q).withPending q2 = s.withPending q2 := rfl
@[simp] theorem State.withPending_self : s.withPending s.pending = s := rfl

/-! `withHeld` -/

@[simp] theorem State.withHeld_pending (b : Bool) : (s.withHeld b).pending = s.pending := rfl
@[simp] theorem State.withHeld_resetHeld (b : Bool) : (s.withHeld b).resetHeld = b := rfl
@[simp] theorem State.withHeld_start (b : Bool) : (s.withHeld b).start = s.start := rfl
@[simp] theorem State.withHeld_link (b : Bool) : (s.withHeld b).link = s.link := rfl
@[simp] theorem State.withHeld_page (b : Bool) : (s.withHeld b).page = s.page := rfl
@[simp] theorem State.withHeld_plan (b : Bool) : (s.withHeld b).plan = s.plan := rfl
@[simp] theorem State.withHeld_pipe (b : Bool) : (s.withHeld b).pipe = s.pipe := rfl
@[simp] theorem State.withHeld_shown (b : Bool) : (s.withHeld b).shown = s.shown := rfl
@[simp] theorem State.withHeld_bank (b : Bool) : (s.withHeld b).bank = s.bank := rfl
@[simp] theorem State.withHeld_rail (b : Bool) : (s.withHeld b).rail = s.rail := rfl
@[simp] theorem State.withHeld_touch (b : Bool) : (s.withHeld b).touch = s.touch := rfl
@[simp] theorem State.withHeld_pattern (b : Bool) : (s.withHeld b).pattern = s.pattern := rfl
@[simp] theorem State.withHeld_draws (b : Bool) : (s.withHeld b).draws = s.draws := rfl
@[simp] theorem State.withHeld_withHeld (b b2 : Bool) : (s.withHeld b).withHeld b2 = s.withHeld b2 := rfl
@[simp] theorem State.withHeld_self : s.withHeld s.resetHeld = s := rfl

/-! `withStart` -/

@[simp] theorem State.withStart_pending (x : StartUp) : (s.withStart x).pending = s.pending := rfl
@[simp] theorem State.withStart_resetHeld (x : StartUp) : (s.withStart x).resetHeld = s.resetHeld := rfl
@[simp] theorem State.withStart_start (x : StartUp) : (s.withStart x).start = x := rfl
@[simp] theorem State.withStart_link (x : StartUp) : (s.withStart x).link = s.link := rfl
@[simp] theorem State.withStart_page (x : StartUp) : (s.withStart x).page = s.page := rfl
@[simp] theorem State.withStart_plan (x : StartUp) : (s.withStart x).plan = s.plan := rfl
@[simp] theorem State.withStart_pipe (x : StartUp) : (s.withStart x).pipe = s.pipe := rfl
@[simp] theorem State.withStart_shown (x : StartUp) : (s.withStart x).shown = s.shown := rfl
@[simp] theorem State.withStart_bank (x : StartUp) : (s.withStart x).bank = s.bank := rfl
@[simp] theorem State.withStart_rail (x : StartUp) : (s.withStart x).rail = s.rail := rfl
@[simp] theorem State.withStart_touch (x : StartUp) : (s.withStart x).touch = s.touch := rfl
@[simp] theorem State.withStart_pattern (x : StartUp) : (s.withStart x).pattern = s.pattern := rfl
@[simp] theorem State.withStart_draws (x : StartUp) : (s.withStart x).draws = s.draws := rfl
@[simp] theorem State.withStart_withStart (x x2 : StartUp) : (s.withStart x).withStart x2 = s.withStart x2 := rfl
@[simp] theorem State.withStart_self : s.withStart s.start = s := rfl

/-! `withLink` -/

@[simp] theorem State.withLink_pending (x : Link) : (s.withLink x).pending = s.pending := rfl
@[simp] theorem State.withLink_resetHeld (x : Link) : (s.withLink x).resetHeld = s.resetHeld := rfl
@[simp] theorem State.withLink_start (x : Link) : (s.withLink x).start = s.start := rfl
@[simp] theorem State.withLink_link (x : Link) : (s.withLink x).link = x := rfl
@[simp] theorem State.withLink_page (x : Link) : (s.withLink x).page = s.page := rfl
@[simp] theorem State.withLink_plan (x : Link) : (s.withLink x).plan = s.plan := rfl
@[simp] theorem State.withLink_pipe (x : Link) : (s.withLink x).pipe = s.pipe := rfl
@[simp] theorem State.withLink_shown (x : Link) : (s.withLink x).shown = s.shown := rfl
@[simp] theorem State.withLink_bank (x : Link) : (s.withLink x).bank = s.bank := rfl
@[simp] theorem State.withLink_rail (x : Link) : (s.withLink x).rail = s.rail := rfl
@[simp] theorem State.withLink_touch (x : Link) : (s.withLink x).touch = s.touch := rfl
@[simp] theorem State.withLink_pattern (x : Link) : (s.withLink x).pattern = s.pattern := rfl
@[simp] theorem State.withLink_draws (x : Link) : (s.withLink x).draws = s.draws := rfl
@[simp] theorem State.withLink_withLink (x x2 : Link) : (s.withLink x).withLink x2 = s.withLink x2 := rfl
@[simp] theorem State.withLink_self : s.withLink s.link = s := rfl

/-! `withPage` -/

@[simp] theorem State.withPage_pending (x : Page) : (s.withPage x).pending = s.pending := rfl
@[simp] theorem State.withPage_resetHeld (x : Page) : (s.withPage x).resetHeld = s.resetHeld := rfl
@[simp] theorem State.withPage_start (x : Page) : (s.withPage x).start = s.start := rfl
@[simp] theorem State.withPage_link (x : Page) : (s.withPage x).link = s.link := rfl
@[simp] theorem State.withPage_page (x : Page) : (s.withPage x).page = x := rfl
@[simp] theorem State.withPage_plan (x : Page) : (s.withPage x).plan = s.plan := rfl
@[simp] theorem State.withPage_pipe (x : Page) : (s.withPage x).pipe = s.pipe := rfl
@[simp] theorem State.withPage_shown (x : Page) : (s.withPage x).shown = s.shown := rfl
@[simp] theorem State.withPage_bank (x : Page) : (s.withPage x).bank = s.bank := rfl
@[simp] theorem State.withPage_rail (x : Page) : (s.withPage x).rail = s.rail := rfl
@[simp] theorem State.withPage_touch (x : Page) : (s.withPage x).touch = s.touch := rfl
@[simp] theorem State.withPage_pattern (x : Page) : (s.withPage x).pattern = s.pattern := rfl
@[simp] theorem State.withPage_draws (x : Page) : (s.withPage x).draws = s.draws := rfl
@[simp] theorem State.withPage_withPage (x x2 : Page) : (s.withPage x).withPage x2 = s.withPage x2 := rfl
@[simp] theorem State.withPage_self : s.withPage s.page = s := rfl

/-! `withPlan` -/

@[simp] theorem State.withPlan_pending (x : Plan) : (s.withPlan x).pending = s.pending := rfl
@[simp] theorem State.withPlan_resetHeld (x : Plan) : (s.withPlan x).resetHeld = s.resetHeld := rfl
@[simp] theorem State.withPlan_start (x : Plan) : (s.withPlan x).start = s.start := rfl
@[simp] theorem State.withPlan_link (x : Plan) : (s.withPlan x).link = s.link := rfl
@[simp] theorem State.withPlan_page (x : Plan) : (s.withPlan x).page = s.page := rfl
@[simp] theorem State.withPlan_plan (x : Plan) : (s.withPlan x).plan = x := rfl
@[simp] theorem State.withPlan_pipe (x : Plan) : (s.withPlan x).pipe = s.pipe := rfl
@[simp] theorem State.withPlan_shown (x : Plan) : (s.withPlan x).shown = s.shown := rfl
@[simp] theorem State.withPlan_bank (x : Plan) : (s.withPlan x).bank = s.bank := rfl
@[simp] theorem State.withPlan_rail (x : Plan) : (s.withPlan x).rail = s.rail := rfl
@[simp] theorem State.withPlan_touch (x : Plan) : (s.withPlan x).touch = s.touch := rfl
@[simp] theorem State.withPlan_pattern (x : Plan) : (s.withPlan x).pattern = s.pattern := rfl
@[simp] theorem State.withPlan_draws (x : Plan) : (s.withPlan x).draws = s.draws := rfl
@[simp] theorem State.withPlan_withPlan (x x2 : Plan) : (s.withPlan x).withPlan x2 = s.withPlan x2 := rfl
@[simp] theorem State.withPlan_self : s.withPlan s.plan = s := rfl

/-! `withPipe` -/

@[simp] theorem State.withPipe_pending (x : Pipeline) : (s.withPipe x).pending = s.pending := rfl
@[simp] theorem State.withPipe_resetHeld (x : Pipeline) : (s.withPipe x).resetHeld = s.resetHeld := rfl
@[simp] theorem State.withPipe_start (x : Pipeline) : (s.withPipe x).start = s.start := rfl
@[simp] theorem State.withPipe_link (x : Pipeline) : (s.withPipe x).link = s.link := rfl
@[simp] theorem State.withPipe_page (x : Pipeline) : (s.withPipe x).page = s.page := rfl
@[simp] theorem State.withPipe_plan (x : Pipeline) : (s.withPipe x).plan = s.plan := rfl
@[simp] theorem State.withPipe_pipe (x : Pipeline) : (s.withPipe x).pipe = x := rfl
@[simp] theorem State.withPipe_shown (x : Pipeline) : (s.withPipe x).shown = s.shown := rfl
@[simp] theorem State.withPipe_bank (x : Pipeline) : (s.withPipe x).bank = s.bank := rfl
@[simp] theorem State.withPipe_rail (x : Pipeline) : (s.withPipe x).rail = s.rail := rfl
@[simp] theorem State.withPipe_touch (x : Pipeline) : (s.withPipe x).touch = s.touch := rfl
@[simp] theorem State.withPipe_pattern (x : Pipeline) : (s.withPipe x).pattern = s.pattern := rfl
@[simp] theorem State.withPipe_draws (x : Pipeline) : (s.withPipe x).draws = s.draws := rfl
@[simp] theorem State.withPipe_withPipe (x x2 : Pipeline) : (s.withPipe x).withPipe x2 = s.withPipe x2 := rfl
@[simp] theorem State.withPipe_self : s.withPipe s.pipe = s := rfl

/-! `withShown` -/

@[simp] theorem State.withShown_pending (x : Image) : (s.withShown x).pending = s.pending := rfl
@[simp] theorem State.withShown_resetHeld (x : Image) : (s.withShown x).resetHeld = s.resetHeld := rfl
@[simp] theorem State.withShown_start (x : Image) : (s.withShown x).start = s.start := rfl
@[simp] theorem State.withShown_link (x : Image) : (s.withShown x).link = s.link := rfl
@[simp] theorem State.withShown_page (x : Image) : (s.withShown x).page = s.page := rfl
@[simp] theorem State.withShown_plan (x : Image) : (s.withShown x).plan = s.plan := rfl
@[simp] theorem State.withShown_pipe (x : Image) : (s.withShown x).pipe = s.pipe := rfl
@[simp] theorem State.withShown_shown (x : Image) : (s.withShown x).shown = x := rfl
@[simp] theorem State.withShown_bank (x : Image) : (s.withShown x).bank = s.bank := rfl
@[simp] theorem State.withShown_rail (x : Image) : (s.withShown x).rail = s.rail := rfl
@[simp] theorem State.withShown_touch (x : Image) : (s.withShown x).touch = s.touch := rfl
@[simp] theorem State.withShown_pattern (x : Image) : (s.withShown x).pattern = s.pattern := rfl
@[simp] theorem State.withShown_draws (x : Image) : (s.withShown x).draws = s.draws := rfl
@[simp] theorem State.withShown_withShown (x x2 : Image) : (s.withShown x).withShown x2 = s.withShown x2 := rfl
@[simp] theorem State.withShown_self : s.withShown s.shown = s := rfl

/-! `withBank` -/

@[simp] theorem State.withBank_pending (x : Bank) : (s.withBank x).pending = s.pending := rfl
@[simp] theorem State.withBank_resetHeld (x : Bank) : (s.withBank x).resetHeld = s.resetHeld := rfl
@[simp] theorem State.withBank_start (x : Bank) : (s.withBank x).start = s.start := rfl
@[simp] theorem State.withBank_link (x : Bank) : (s.withBank x).link = s.link := rfl
@[simp] theorem State.withBank_page (x : Bank) : (s.withBank x).page = s.page := rfl
@[simp] theorem State.withBank_plan (x : Bank) : (s.withBank x).plan = s.plan := rfl
@[simp] theorem State.withBank_pipe (x : Bank) : (s.withBank x).pipe = s.pipe := rfl
@[simp] theorem State.withBank_shown (x : Bank) : (s.withBank x).shown = s.shown := rfl
@[simp] theorem State.withBank_bank (x : Bank) : (s.withBank x).bank = x := rfl
@[simp] theorem State.withBank_rail (x : Bank) : (s.withBank x).rail = s.rail := rfl
@[simp] theorem State.withBank_touch (x : Bank) : (s.withBank x).touch = s.touch := rfl
@[simp] theorem State.withBank_pattern (x : Bank) : (s.withBank x).pattern = s.pattern := rfl
@[simp] theorem State.withBank_draws (x : Bank) : (s.withBank x).draws = s.draws := rfl
@[simp] theorem State.withBank_withBank (x x2 : Bank) : (s.withBank x).withBank x2 = s.withBank x2 := rfl
@[simp] theorem State.withBank_self : s.withBank s.bank = s := rfl

/-! `withRail` -/

@[simp] theorem State.withRail_pending (x : RailShare) : (s.withRail x).pending = s.pending := rfl
@[simp] theorem State.withRail_resetHeld (x : RailShare) : (s.withRail x).resetHeld = s.resetHeld := rfl
@[simp] theorem State.withRail_start (x : RailShare) : (s.withRail x).start = s.start := rfl
@[simp] theorem State.withRail_link (x : RailShare) : (s.withRail x).link = s.link := rfl
@[simp] theorem State.withRail_page (x : RailShare) : (s.withRail x).page = s.page := rfl
@[simp] theorem State.withRail_plan (x : RailShare) : (s.withRail x).plan = s.plan := rfl
@[simp] theorem State.withRail_pipe (x : RailShare) : (s.withRail x).pipe = s.pipe := rfl
@[simp] theorem State.withRail_shown (x : RailShare) : (s.withRail x).shown = s.shown := rfl
@[simp] theorem State.withRail_bank (x : RailShare) : (s.withRail x).bank = s.bank := rfl
@[simp] theorem State.withRail_rail (x : RailShare) : (s.withRail x).rail = x := rfl
@[simp] theorem State.withRail_touch (x : RailShare) : (s.withRail x).touch = s.touch := rfl
@[simp] theorem State.withRail_pattern (x : RailShare) : (s.withRail x).pattern = s.pattern := rfl
@[simp] theorem State.withRail_draws (x : RailShare) : (s.withRail x).draws = s.draws := rfl
@[simp] theorem State.withRail_withRail (x x2 : RailShare) : (s.withRail x).withRail x2 = s.withRail x2 := rfl
@[simp] theorem State.withRail_self : s.withRail s.rail = s := rfl

/-! `withTouch` -/

@[simp] theorem State.withTouch_pending (x : Touch) : (s.withTouch x).pending = s.pending := rfl
@[simp] theorem State.withTouch_resetHeld (x : Touch) : (s.withTouch x).resetHeld = s.resetHeld := rfl
@[simp] theorem State.withTouch_start (x : Touch) : (s.withTouch x).start = s.start := rfl
@[simp] theorem State.withTouch_link (x : Touch) : (s.withTouch x).link = s.link := rfl
@[simp] theorem State.withTouch_page (x : Touch) : (s.withTouch x).page = s.page := rfl
@[simp] theorem State.withTouch_plan (x : Touch) : (s.withTouch x).plan = s.plan := rfl
@[simp] theorem State.withTouch_pipe (x : Touch) : (s.withTouch x).pipe = s.pipe := rfl
@[simp] theorem State.withTouch_shown (x : Touch) : (s.withTouch x).shown = s.shown := rfl
@[simp] theorem State.withTouch_bank (x : Touch) : (s.withTouch x).bank = s.bank := rfl
@[simp] theorem State.withTouch_rail (x : Touch) : (s.withTouch x).rail = s.rail := rfl
@[simp] theorem State.withTouch_touch (x : Touch) : (s.withTouch x).touch = x := rfl
@[simp] theorem State.withTouch_pattern (x : Touch) : (s.withTouch x).pattern = s.pattern := rfl
@[simp] theorem State.withTouch_draws (x : Touch) : (s.withTouch x).draws = s.draws := rfl
@[simp] theorem State.withTouch_withTouch (x x2 : Touch) : (s.withTouch x).withTouch x2 = s.withTouch x2 := rfl
@[simp] theorem State.withTouch_self : s.withTouch s.touch = s := rfl

/-! `withPattern` -/

@[simp] theorem State.withPattern_pending (x : Pattern) : (s.withPattern x).pending = s.pending := rfl
@[simp] theorem State.withPattern_resetHeld (x : Pattern) : (s.withPattern x).resetHeld = s.resetHeld := rfl
@[simp] theorem State.withPattern_start (x : Pattern) : (s.withPattern x).start = s.start := rfl
@[simp] theorem State.withPattern_link (x : Pattern) : (s.withPattern x).link = s.link := rfl
@[simp] theorem State.withPattern_page (x : Pattern) : (s.withPattern x).page = s.page := rfl
@[simp] theorem State.withPattern_plan (x : Pattern) : (s.withPattern x).plan = s.plan := rfl
@[simp] theorem State.withPattern_pipe (x : Pattern) : (s.withPattern x).pipe = s.pipe := rfl
@[simp] theorem State.withPattern_shown (x : Pattern) : (s.withPattern x).shown = s.shown := rfl
@[simp] theorem State.withPattern_bank (x : Pattern) : (s.withPattern x).bank = s.bank := rfl
@[simp] theorem State.withPattern_rail (x : Pattern) : (s.withPattern x).rail = s.rail := rfl
@[simp] theorem State.withPattern_touch (x : Pattern) : (s.withPattern x).touch = s.touch := rfl
@[simp] theorem State.withPattern_pattern (x : Pattern) : (s.withPattern x).pattern = x := rfl
@[simp] theorem State.withPattern_draws (x : Pattern) : (s.withPattern x).draws = s.draws := rfl
@[simp] theorem State.withPattern_withPattern (x x2 : Pattern) : (s.withPattern x).withPattern x2 = s.withPattern x2 := rfl
@[simp] theorem State.withPattern_self : s.withPattern s.pattern = s := rfl

/-! `withDraws` -/

@[simp] theorem State.withDraws_pending (n : Nat) : (s.withDraws n).pending = s.pending := rfl
@[simp] theorem State.withDraws_resetHeld (n : Nat) : (s.withDraws n).resetHeld = s.resetHeld := rfl
@[simp] theorem State.withDraws_start (n : Nat) : (s.withDraws n).start = s.start := rfl
@[simp] theorem State.withDraws_link (n : Nat) : (s.withDraws n).link = s.link := rfl
@[simp] theorem State.withDraws_page (n : Nat) : (s.withDraws n).page = s.page := rfl
@[simp] theorem State.withDraws_plan (n : Nat) : (s.withDraws n).plan = s.plan := rfl
@[simp] theorem State.withDraws_pipe (n : Nat) : (s.withDraws n).pipe = s.pipe := rfl
@[simp] theorem State.withDraws_shown (n : Nat) : (s.withDraws n).shown = s.shown := rfl
@[simp] theorem State.withDraws_bank (n : Nat) : (s.withDraws n).bank = s.bank := rfl
@[simp] theorem State.withDraws_rail (n : Nat) : (s.withDraws n).rail = s.rail := rfl
@[simp] theorem State.withDraws_touch (n : Nat) : (s.withDraws n).touch = s.touch := rfl
@[simp] theorem State.withDraws_pattern (n : Nat) : (s.withDraws n).pattern = s.pattern := rfl
@[simp] theorem State.withDraws_draws (n : Nat) : (s.withDraws n).draws = n := rfl
@[simp] theorem State.withDraws_withDraws (n n2 : Nat) : (s.withDraws n).withDraws n2 = s.withDraws n2 := rfl
@[simp] theorem State.withDraws_self : s.withDraws s.draws = s := rfl

end Sys2Proof.Machine
end

