-- ==== Sys2Proof/Laws/Changes.lean ====
section
/-!
SUPPORT. Frames: for each shared operation, which blocks of the state it can change.
-/

set_option Elab.async false

namespace Sys2Proof.Machine

theorem Changes.refl (bs : List Block) (s : State) : Changes bs s s := by
  intro b _; cases b <;> rfl

theorem Changes.trans {bs : List Block} {s t u : State} (h : Changes bs s t) (g : Changes bs t u) :
    Changes bs s u := by
  intro b hb
  have h1 := h b hb
  have h2 := g b hb
  cases b <;> exact Eq.trans h2 h1

theorem Changes.mono {bs cs : List Block} {s t : State} (h : Changes bs s t) (hs : bs ⊆ cs) : Changes cs s t :=
  fun b hb => h b (fun hm => hb (hs hm))

/-- Changes of two operations, one after the other. -/
theorem Changes.comp {bs cs ds : List Block} {s t u : State} (h : Changes bs s t) (g : Changes cs t u)
    (hb : bs ⊆ ds := by decide) (hc : cs ⊆ ds := by decide) : Changes ds s u :=
  (h.mono hb).trans (g.mono hc)

theorem Changes.foldl {α : Type} {bs : List Block} (f : State → α → State) (hf : ∀ s a, Changes bs s (f s a))
    (as : List α) (s : State) : Changes bs s (as.foldl f s) := by
  induction as generalizing s with
  | nil => exact Changes.refl _ _
  | cons a as ih => exact (hf s a).trans (ih _)

theorem Changes.ite {bs : List Block} {s t u : State} {c : Prop} [Decidable c] (h : Changes bs s t)
    (g : Changes bs s u) : Changes bs s (if c then t else u) := by
  split <;> assumption

section
variable {bs : List Block} {s t : State} (h : Changes bs s t)
include h
theorem Changes.pending (hb : Block.pending ∉ bs := by decide) : t.pending = s.pending := h _ hb
theorem Changes.held (hb : Block.held ∉ bs := by decide) : t.resetHeld = s.resetHeld := h _ hb
theorem Changes.start (hb : Block.start ∉ bs := by decide) : t.start = s.start := h _ hb
theorem Changes.link (hb : Block.link ∉ bs := by decide) : t.link = s.link := h _ hb
theorem Changes.page (hb : Block.page ∉ bs := by decide) : t.page = s.page := h _ hb
theorem Changes.plan (hb : Block.plan ∉ bs := by decide) : t.plan = s.plan := h _ hb
theorem Changes.pipe (hb : Block.pipe ∉ bs := by decide) : t.pipe = s.pipe := h _ hb
theorem Changes.shown (hb : Block.shown ∉ bs := by decide) : t.shown = s.shown := h _ hb
theorem Changes.bank (hb : Block.bank ∉ bs := by decide) : t.bank = s.bank := h _ hb
theorem Changes.rail (hb : Block.rail ∉ bs := by decide) : t.rail = s.rail := h _ hb
theorem Changes.touch (hb : Block.touch ∉ bs := by decide) : t.touch = s.touch := h _ hb
theorem Changes.pattern (hb : Block.pattern ∉ bs := by decide) : t.pattern = s.pattern := h _ hb
theorem Changes.draws (hb : Block.draws ∉ bs := by decide) : t.draws = s.draws := h _ hb
end

/-! ### The block updates -/

theorem changes_withStart (s : State) (x : StartUp) : Changes [.start] s (s.withStart x) := by
  intro b hb; cases b <;> first | rfl | simp at hb
theorem changes_withLink (s : State) (x : Link) : Changes [.link] s (s.withLink x) := by
  intro b hb; cases b <;> first | rfl | simp at hb
theorem changes_withPage (s : State) (x : Page) : Changes [.page] s (s.withPage x) := by
  intro b hb; cases b <;> first | rfl | simp at hb
theorem changes_withPlan (s : State) (x : Plan) : Changes [.plan] s (s.withPlan x) := by
  intro b hb; cases b <;> first | rfl | simp at hb
theorem changes_withPipe (s : State) (x : Pipeline) : Changes [.pipe] s (s.withPipe x) := by
  intro b hb; cases b <;> first | rfl | simp at hb
theorem changes_withShown (s : State) (x : Image) : Changes [.shown] s (s.withShown x) := by
  intro b hb; cases b <;> first | rfl | simp at hb
theorem changes_withBank (s : State) (x : Bank) : Changes [.bank] s (s.withBank x) := by
  intro b hb; cases b <;> first | rfl | simp at hb
theorem changes_withRail (s : State) (x : RailShare) : Changes [.rail] s (s.withRail x) := by
  intro b hb; cases b <;> first | rfl | simp at hb
theorem changes_withTouch (s : State) (x : Touch) : Changes [.touch] s (s.withTouch x) := by
  intro b hb; cases b <;> first | rfl | simp at hb
theorem changes_withPattern (s : State) (x : Pattern) : Changes [.pattern] s (s.withPattern x) := by
  intro b hb; cases b <;> first | rfl | simp at hb
theorem changes_withDraws (s : State) (x : Nat) : Changes [.draws] s (s.withDraws x) := by
  intro b hb; cases b <;> first | rfl | simp at hb

/-! ### The transmit queue and the bank -/

theorem changes_count (k : Counter) (s : State) : Changes [.link] s (count k s) := changes_withLink _ _

theorem changes_tryContend (s : State) : Changes [.link, .draws] s (tryContend s) := by
  unfold tryContend
  exact .ite ((changes_withLink _ _).comp (changes_withDraws _ _)) (.refl _ _)

theorem changes_joinTail (f : QFrame) (s : State) : Changes [.link, .draws] s (joinTail f s) :=
  (changes_withLink _ _).comp (changes_tryContend _)

theorem changes_enqueueReply (r : Reply) (s : State) : Changes [.link, .draws] s (enqueueReply r s) := by
  unfold enqueueReply
  exact .ite ((changes_count _ _).mono (by decide)) (changes_joinTail _ _)

theorem changes_makeRoom (s : State) : Changes [.link] s (makeRoom s) :=
  (changes_withLink _ _).comp (changes_count _ _)

theorem changes_renewQueued (k : Announce) (s : State) : Changes [.link] s (renewQueued k s) := by
  unfold renewQueued
  exact .ite (changes_withLink _ _) (.ite (changes_withLink _ _) (.refl _ _))

theorem changes_enqueueAnnounce (k : Announce) (s : State) :
    Changes [.link, .draws] s (enqueueAnnounce k s) := by
  unfold enqueueAnnounce
  exact .ite ((changes_renewQueued _ _).mono (by decide))
    (.ite (changes_joinTail _ _) ((changes_makeRoom _).comp (changes_joinTail _ _)))

theorem changes_judgeRise (s : State) : Changes [.rail] s (judgeRise s) := by
  unfold judgeRise
  split
  · exact .refl _ _
  · exact .ite (changes_withRail _ _) (.refl _ _)

theorem changes_applyAllowance (a : Nat) (s : State) : Changes [.rail] s (applyAllowance a s) := by
  unfold applyAllowance
  refine .ite ((changes_withRail _ _).trans (changes_withRail _ _)) ?_
  split
  · exact .ite ((changes_withRail _ _).trans (changes_judgeRise _)) ((changes_withRail _ _).trans (changes_withRail _ _))
  · exact (changes_withRail _ _).trans (changes_withRail _ _)

theorem changes_recomputeAllowance (s : State) : Changes [.rail] s (recomputeAllowance s) := by
  unfold recomputeAllowance
  split
  · exact .refl _ _
  · exact .ite (changes_applyAllowance _ _) (.refl _ _)

theorem changes_announceDemand (s : State) : Changes [.link, .draws] s (announceDemand s) := by
  unfold announceDemand
  exact .ite (.refl _ _) (changes_enqueueAnnounce _ _)

theorem changes_updateDemand (s : State) : Changes [.bank, .rail, .link, .draws] s (updateDemand s) := by
  unfold updateDemand
  exact .ite (.refl _ _) (((changes_withBank _ _).comp (changes_announceDemand _) (ds := [.bank, .rail, .link, .draws])).comp
    (changes_recomputeAllowance _))

theorem changes_pay (cost : Nat) (s : State) : Changes [.bank, .rail, .link, .draws] s (pay cost s) :=
  (changes_withBank _ _).comp (changes_updateDemand _)

theorem changes_drawCompleted (d : Nat) (s : State) : Changes [.bank, .rail, .link, .draws] s (drawCompleted d s) :=
  ((changes_withBank _ _).comp (changes_judgeRise _) (ds := [.bank, .rail, .link, .draws])).comp
    (changes_announceDemand _)

theorem changes_drawAbandoned (s : State) : Changes [.rail, .link, .draws] s (drawAbandoned s) :=
  (changes_judgeRise _).comp (changes_announceDemand _)

/-! ### The strike plan -/

theorem changes_setJob (r : Nat) (j : Option Job) (s : State) : Changes [.plan] s (setJob r j s) :=
  changes_withPlan _ _

theorem changes_writeJob (r : Nat) (m : Moves) (a : Nat) (s : State) : Changes [.plan] s (writeJob r m a s) :=
  changes_setJob _ _ _

theorem changes_removeJob (r : Nat) (s : State) : Changes [.plan] s (removeJob r s) := changes_setJob _ _ _

theorem changes_rebuildRow (s : State) (r : Nat) : Changes [.plan] s (rebuildRow s r) :=
  .ite (changes_removeJob _ _) (changes_writeJob _ _ _ _)

theorem changes_rebuildPlan (s : State) : Changes [.plan] s (rebuildPlan s) :=
  Changes.foldl _ changes_rebuildRow _ _

theorem changes_refreshRow (s : State) (r : Nat) : Changes [.plan] s (refreshRow s r) :=
  .ite (changes_removeJob _ _) (changes_writeJob _ _ _ _)

theorem changes_refreshRows (rows : List Nat) (s : State) : Changes [.plan] s (refreshRows rows s) :=
  Changes.foldl _ changes_refreshRow _ _

theorem changes_emptyPlan (s : State) : Changes [.plan] s (emptyPlan s) := changes_withPlan _ _

theorem changes_clearFaultMap (s : State) : Changes [.plan] s (clearFaultMap s) := changes_withPlan _ _

theorem changes_recomputeVoided (r : Nat) (m : Moves) (a : Nat) (s : State) :
    Changes [.plan] s (recomputeVoided r m a s) :=
  .ite (changes_removeJob _ _) (.ite (changes_writeJob _ _ _ _) (changes_writeJob _ _ _ _))

theorem changes_recomputeJob (r : Nat) (m : Moves) (a : Nat) (s : State) :
    Changes [.plan] s (recomputeJob r m a s) :=
  .ite (changes_removeJob _ _) (.ite (.ite (changes_writeJob _ _ _ _)
    ((changes_withPlan _ _).trans (changes_removeJob _ _))) (changes_writeJob _ _ _ _))

theorem changes_recomputeRow (r : Nat) (m : Moves) (a : Nat) (v : Bool) (s : State) :
    Changes [.plan] s (recomputeRow r m a v s) :=
  .ite (changes_recomputeVoided _ _ _ _) ((changes_withPlan _ _).trans (changes_recomputeJob _ _ _ _))

theorem changes_senseRow (r : Nat) (x : PinSet) (s : State) : Changes [.shown] s (senseRow r x s) :=
  changes_withShown _ _

/-! ### The row pipeline -/

theorem changes_admitRow (s : State) : Changes [.pipe] s (admitRow s) := by
  unfold admitRow
  split
  · split
    · exact changes_withPipe _ _
    · exact .refl _ _
  · exact .refl _ _

theorem changes_stopDrift (s : State) : Changes [.touch] s (stopDrift s) := changes_withTouch _ _

theorem changes_startDrift (s : State) : Changes [.touch] s (startDrift s) :=
  .ite (changes_withTouch _ _) (.refl _ _)

theorem changes_lookForRow (s : State) : Changes [.pipe, .touch] s (lookForRow s) :=
  .ite (((changes_withPipe _ _).trans (changes_admitRow _)).comp (changes_stopDrift _)) (.refl _ _)

theorem changes_tryFire (s : State) : Changes [.pipe, .bank, .rail, .link, .draws] s (tryFire s) := by
  unfold tryFire
  split
  · exact .refl _ _
  · exact .ite ((changes_withPipe _ _).comp (changes_pay _ _)) (.refl _ _)

theorem changes_withdrawLine (l : Nat) (s : State) : Changes [.pipe] s (withdrawLine l s) := changes_withPipe _ _

theorem changes_fence (s : State) : Changes [.pipe] s (fence s) := by
  unfold fence
  split
  · exact changes_withPipe _ _
  · exact .refl _ _
  · exact .refl _ _

/-! ### Notices -/

theorem changes_judgeHold (s : State) : Changes [.touch] s (judgeHold s) := by
  unfold judgeHold
  split
  · exact .ite (.refl _ _) (changes_withTouch _ _)
  · exact .ite (changes_withTouch _ _) (.refl _ _)
  · exact .refl _ _
  · exact .refl _ _

theorem changes_quietNotices (s : State) : Changes [.pipe, .touch] s (quietNotices s) :=
  (changes_lookForRow _).comp (changes_judgeHold _)

theorem changes_setPattern (s : State) : Changes [.pattern] s (setPattern s) := changes_withPattern _ _

theorem changes_recomputePatternWith {bs : List Block} (notify : State → State)
    (hn : ∀ s, Changes bs s (notify s)) (s : State) :
    Changes (.pattern :: .plan :: bs) s (recomputePatternWith notify s) := by
  unfold recomputePatternWith
  refine .ite (.refl _ _) (.ite ((changes_setPattern _).mono (by simp)) ?_)
  exact (((changes_setPattern _).mono (by simp)).trans ((changes_refreshRows _ _).mono (by simp))).trans
    ((hn _).mono (by intro b hb; simp [hb]))

theorem changes_announce (a : Half) (o : PageOutcome) (d : Nat) (s : State) :
    Changes [.page, .link, .draws] s (announce a o d s) :=
  (changes_withPage _ _).comp (changes_enqueueAnnounce _ _)

/-- The blocks that page work can change. -/
abbrev workBlocks : List Block := [.page, .link, .draws, .pattern, .plan, .pipe, .touch]

theorem changes_settlePage (s : State) : Changes workBlocks s (settlePage s) :=
  ((changes_withPage _ _).comp (changes_announce _ _ _ _) (ds := workBlocks)).comp
    (changes_recomputePatternWith _ changes_quietNotices _)

theorem changes_settleCheck (s : State) : Changes workBlocks s (settleCheck s) :=
  .ite (changes_settlePage _) (.refl _ _)

theorem changes_planNotices (s : State) : Changes workBlocks s (planNotices s) :=
  (changes_quietNotices _).comp (changes_settleCheck _)

theorem changes_recomputePattern (s : State) : Changes workBlocks s (recomputePattern s) :=
  (changes_recomputePatternWith _ changes_planNotices _).mono (by decide)

theorem changes_lineCloses (l : Nat) (s : State) : Changes [.pipe, .touch] s (lineCloses l s) :=
  (changes_withdrawLine _ _).comp (changes_judgeHold _)

theorem changes_lineOpens (s : State) : Changes [.pipe, .touch] s (lineOpens s) :=
  (changes_lookForRow _).comp (changes_judgeHold _)

/-! ### The page assembler -/

theorem changes_takePage (a : Half) (m : Byte) (s : State) : Changes [.page, .link] s (takePage a m s) := by
  unfold takePage
  refine .ite ((changes_count _ _).mono (by decide)) ?_
  split
  · exact (changes_withPage _ _).mono (by decide)
  · exact .ite ((changes_withPage _ _).mono (by decide)) ((changes_withPage _ _).comp (changes_count _ _))

theorem changes_takeContent (a q : Half) (l f : Byte) (cs : List Byte) (s : State) :
    Changes [.page, .link] s (takeContent a q l f cs s) := by
  unfold takeContent
  split
  · exact (changes_count _ _).mono (by decide)
  · exact .ite ((changes_count _ _).mono (by decide)) (.ite ((changes_withPage _ _).mono (by decide))
      (.ite ((changes_count _ _).mono (by decide)) ((changes_count _ _).mono (by decide))))

theorem changes_startWork (s : State) : Changes workBlocks s (startWork s) :=
  ((((((changes_withPage _ _).comp (changes_withTouch _ _) (ds := workBlocks)).comp (changes_setPattern _)
    (ds := workBlocks)).comp (changes_fence _) (ds := workBlocks)).comp (changes_rebuildPlan _) (ds := workBlocks)).comp
    (changes_planNotices _) (ds := workBlocks)).comp (changes_settleCheck _)

theorem changes_turnTaken (a : Half) (s : State) : Changes workBlocks s (turnTaken a s) :=
  (changes_withPage _ _).comp (changes_startWork _)

theorem changes_flattenPage (s : State) : Changes workBlocks s (flattenPage s) :=
  (changes_withPage _ _).comp (changes_startWork _)

theorem changes_duplicateTurn (s : State) : Changes [.page, .link, .draws] s (duplicateTurn s) := by
  unfold duplicateTurn
  split
  · exact changes_announce _ _ _ _
  · exact .ite (changes_announce _ _ _ _) (.refl _ _)
  · exact .refl _ _

theorem changes_turnElsewhere (a : Half) (s : State) : Changes [.page, .link, .draws] s (turnElsewhere a s) :=
  .ite (changes_duplicateTurn _) (.ite (changes_announce _ _ _ _) ((changes_count _ _).mono (by decide)))

theorem changes_takeTurn (a n : Half) (s : State) : Changes workBlocks s (takeTurn a n s) := by
  unfold takeTurn
  split
  · exact (changes_turnElsewhere _ _).mono (by decide)
  · exact .ite ((changes_turnElsewhere _ _).mono (by decide)) (.ite (changes_turnTaken _ _)
      ((changes_announce _ _ _ _).mono (by decide)))

theorem changes_pageReset (s : State) : Changes workBlocks s (pageReset s) :=
  ((((((changes_withPage _ _).comp (changes_withTouch _ _) (ds := workBlocks)).comp (changes_setPattern _)
    (ds := workBlocks)).comp (changes_fence _) (ds := workBlocks)).comp (changes_emptyPlan _) (ds := workBlocks)).comp
    (changes_refreshRows _ _) (ds := workBlocks)).comp (changes_planNotices _)

theorem changes_holdReport (m : Nat) (s : State) : Changes workBlocks s (holdReport m s) :=
  .ite (((changes_withPage _ _).comp (changes_announce _ _ _ _) (ds := workBlocks)).comp (changes_recomputePattern _))
    (.refl _ _)

/-! ### The peer view, the touch guard and the pipeline's step -/

theorem changes_takeDraw (a d : Byte) (t : Half) (o : Byte) (s : State) :
    Changes (.rail :: workBlocks) s (takeDraw a d t o s) :=
  ((changes_withRail _ _).comp (changes_recomputePattern _) (ds := .rail :: workBlocks)).comp
    (changes_recomputeAllowance _)

theorem changes_takeSettled (a : Byte) (t : Half) (o : Byte) (s : State) :
    Changes (.rail :: workBlocks) s (takeSettled a t o s) :=
  .ite ((changes_withRail _ _).comp (changes_recomputePattern _)) (.refl _ _)

theorem changes_expireEntry (a : Byte) (s : State) : Changes (.rail :: workBlocks) s (expireEntry a s) :=
  .ite (((changes_withRail _ _).comp (changes_recomputePattern _) (ds := .rail :: workBlocks)).comp
    (changes_recomputeAllowance _)) (.refl _ _)

theorem changes_guardEvent (l : Nat) (f : LineGuard → LineGuard) (s : State) :
    Changes [.pipe, .touch] s (guardEvent l f s) :=
  .ite ((changes_withTouch _ _).mono (by decide)) (.ite ((changes_withTouch _ _).comp (changes_lineCloses _ _))
    ((changes_withTouch _ _).comp (changes_lineOpens _)))

theorem changes_stripFails (l : Nat) (s : State) : Changes workBlocks s (stripFails l s) :=
  .ite (.ite (((changes_withTouch _ _).comp (changes_recomputePattern _) (ds := workBlocks)).comp
    (changes_lineOpens _)) ((changes_withTouch _ _).comp (changes_recomputePattern _))) (.refl _ _)

theorem changes_clearStrips (s : State) : Changes workBlocks s (clearStrips s) :=
  .ite (((changes_withTouch _ _).comp (changes_recomputePattern _)).trans
    (Changes.foldl _ (fun t l => (changes_lineCloses l t).mono (by decide)) _ _)) (.refl _ _)

theorem changes_holdExpires (s : State) : Changes workBlocks s (holdExpires s) :=
  .ite ((changes_withTouch _ _).comp (changes_holdReport _ _)) (.refl _ _)

theorem changes_scanLine (l : Nat) (a b c d : PinSet) (s : State) :
    Changes (.shown :: workBlocks) s (scanLine l a b c d s) :=
  ((((((changes_withTouch _ _).comp (changes_senseRow _ _ _) (ds := .shown :: workBlocks)).comp
    (changes_senseRow _ _ _) (ds := .shown :: workBlocks)).comp (changes_senseRow _ _ _)
    (ds := .shown :: workBlocks)).comp (changes_senseRow _ _ _) (ds := .shown :: workBlocks)).comp
    (changes_refreshRows _ _) (ds := .shown :: workBlocks)).comp (changes_planNotices _)

theorem changes_driftExpires (a b c d : PinSet) (s : State) :
    Changes (.shown :: workBlocks) s (driftExpires a b c d s) := by
  unfold driftExpires
  split
  · simp only
    split
    · exact (changes_withTouch _ _).mono (by decide)
    · exact (changes_withTouch _ _).comp (changes_scanLine _ _ _ _ _ _)
  · exact .refl _ _

/-- The blocks that the pipeline's step can change. -/
abbrev stepBlocks : List Block := .bank :: .rail :: .shown :: workBlocks

theorem changes_senseStage (x : PinSet) (s : State) : Changes (.shown :: workBlocks) s (senseStage x s) := by
  unfold senseStage
  split
  · exact .refl _ _
  · exact ((((changes_withPipe _ _).comp (changes_senseRow _ _ _) (ds := .shown :: workBlocks)).comp
      (changes_recomputeRow _ _ _ _ _) (ds := .shown :: workBlocks))).comp (changes_planNotices _)

theorem changes_settleStage (s : State) : Changes [.pipe] s (settleStage s) := by
  unfold settleStage
  split
  · exact .refl _ _
  · exact changes_withPipe _ _

theorem changes_strikeStage (s : State) : Changes [.pipe] s (strikeStage s) := by
  unfold strikeStage
  split
  · exact .refl _ _
  · exact .ite (changes_withPipe _ _) (.refl _ _)

theorem changes_loadStage (s : State) : Changes [.pipe, .bank, .rail, .link, .draws] s (loadStage s) := by
  unfold loadStage
  split
  · exact (changes_withPipe _ _).comp (changes_tryFire _)
  · exact .refl _ _

theorem changes_admissionStage (s : State) : Changes [.pipe] s (admissionStage s) :=
  .ite (changes_admitRow _) (.refl _ _)

theorem changes_becomeIdle (s : State) : Changes workBlocks s (becomeIdle s) :=
  ((changes_withPipe _ _).comp (changes_startDrift _) (ds := workBlocks)).comp (changes_settleCheck _)

theorem changes_engineCheck (s : State) : Changes workBlocks s (engineCheck s) := by
  unfold engineCheck
  refine .ite ?_ (.refl _ _)
  split
  · exact .ite (((changes_withPipe _ _).trans (changes_admitRow _)).mono (by decide)) (changes_becomeIdle _)
  · exact changes_becomeIdle _
  · exact .refl _ _

theorem changes_runStep (x : PinSet) (s : State) : Changes stepBlocks s (runStep x s) :=
  (((((changes_senseStage _ _).comp (changes_settleStage _) (ds := stepBlocks)).comp (changes_strikeStage _)
    (ds := stepBlocks)).comp (changes_loadStage _) (ds := stepBlocks)).comp (changes_admissionStage _)
    (ds := stepBlocks)).comp (changes_engineCheck _)

theorem changes_stepExpires (x : PinSet) (s : State) : Changes stepBlocks s (stepExpires x s) := by
  unfold stepExpires
  split
  · exact (changes_withPipe _ _).comp (changes_runStep _ _)
  · exact .refl _ _

theorem changes_railExpires (s : State) : Changes [.pipe, .bank, .rail, .link, .draws] s (railExpires s) := by
  unfold railExpires
  split
  · exact .ite ((changes_withBank _ _).mono (by decide)) (((changes_withBank _ _).comp (changes_updateDemand _)
      (ds := [.pipe, .bank, .rail, .link, .draws])).comp (changes_tryFire _))
  · exact .refl _ _

/-! ### Queries, RESET frames and the line -/

theorem changes_clearAllFaults (s : State) : Changes workBlocks s (clearAllFaults s) :=
  (((changes_clearFaultMap _).comp (changes_clearStrips _) (ds := workBlocks)).comp (changes_refreshRows _ _)
    (ds := workBlocks)).comp (changes_planNotices _)

theorem changes_queryAction (c : QueryCase) (s : State) : Changes workBlocks s (queryAction c s) := by
  unfold queryAction
  split
  · exact changes_flattenPage _
  · exact changes_clearAllFaults _
  · exact (changes_withLink _ _).mono (by decide)
  · exact .refl _ _

theorem changes_answerQuery (t k : Byte) (a : List Byte) (s : State) :
    Changes workBlocks s (answerQuery t k a s) :=
  (changes_queryAction _ _).comp (changes_enqueueReply _ _)

theorem changes_takeQuery (g t k : Byte) (a : List Byte) (s : State) :
    Changes workBlocks s (takeQuery g t k a s) := .ite (changes_answerQuery _ _ _ _) (.refl _ _)

/-- The blocks that a frame can change. -/
abbrev frameBlocks : List Block := .start :: .bank :: .rail :: workBlocks

theorem changes_enterListening (s : State) :
    Changes [.start, .touch, .bank, .rail, .link, .draws, .pipe] s (enterListening s) :=
  (((((((changes_withStart _ _).comp (changes_withTouch _ _) (ds := [.start, .touch, .bank, .rail, .link, .draws, .pipe]))).comp
    (changes_withBank _ _) (ds := [.start, .touch, .bank, .rail, .link, .draws, .pipe])).comp (changes_withRail _ _)
    (ds := [.start, .touch, .bank, .rail, .link, .draws, .pipe])).comp (changes_enqueueAnnounce _ _)
    (ds := [.start, .touch, .bank, .rail, .link, .draws, .pipe])).comp (changes_recomputeAllowance _)
    (ds := [.start, .touch, .bank, .rail, .link, .draws, .pipe])).comp (changes_lookForRow _)

theorem changes_enterJoined (s : State) : Changes [.start, .touch, .rail, .link, .draws] s (enterJoined s) :=
  ((((changes_withStart _ _).comp (changes_tryContend _) (ds := [.start, .touch, .rail, .link, .draws])).comp
    (changes_recomputeAllowance _) (ds := [.start, .touch, .rail, .link, .draws])).comp (changes_judgeRise _)
    (ds := [.start, .touch, .rail, .link, .draws])).comp (changes_startDrift _)

theorem changes_resetRailShare (s : State) : Changes (.rail :: workBlocks) s (resetRailShare s) :=
  ((changes_withRail _ _).comp (changes_recomputePattern _) (ds := .rail :: workBlocks)).comp (changes_withRail _ _)

theorem changes_linkReset (s : State) : Changes frameBlocks s (linkReset s) :=
  (((((changes_pageReset _).comp (changes_withLink _ _) (ds := frameBlocks)).comp (changes_resetRailShare _)
    (ds := frameBlocks)).comp (changes_withBank _ _) (ds := frameBlocks)).comp (changes_withTouch _ _)
    (ds := frameBlocks)).comp (changes_enterListening _)

theorem changes_takeReset (g c : Byte) (s : State) : Changes frameBlocks s (takeReset g c s) :=
  .ite (.ite ((changes_pageReset _).mono (by decide)) (changes_linkReset _)) (.refl _ _)

theorem changes_deliver (a : Byte) (b : Body) (s : State) : Changes frameBlocks s (deliver a b s) := by
  cases b with
  | page => exact (changes_takePage _ _ _).mono (by decide)
  | content => exact (changes_takeContent _ _ _ _ _ _).mono (by decide)
  | turn => exact (changes_takeTurn _ _ _).mono (by decide)
  | settled => exact (changes_takeSettled _ _ _ _).mono (by decide)
  | draw => exact (changes_takeDraw _ _ _ _ _).mono (by decide)
  | query => exact .ite ((changes_takeQuery _ _ _ _ _).mono (by decide)) (.refl _ _)
  | reply => exact .refl _ _
  | reset => exact changes_takeReset _ _ _

theorem changes_acceptFrame (a : Byte) (b : Body) (s : State) : Changes frameBlocks s (acceptFrame a b s) :=
  .ite (((changes_withLink _ _).trans (changes_count _ _)).mono (by decide)) (changes_deliver _ _ _)

theorem changes_actOnVerdict (v : Verdict) (s : State) : Changes frameBlocks s (actOnVerdict v s) := by
  cases v with
  | crcError => exact (changes_count _ _).mono (by decide)
  | malformed => exact (changes_count _ _).mono (by decide)
  | unknownKind => exact (changes_count _ _).mono (by decide)
  | good => exact changes_acceptFrame _ _ _

theorem changes_lineBusy (s : State) : Changes [.link] s (lineBusy s) := changes_withLink _ _

theorem changes_receiveBody (a : Byte) (b : Body) (s : State) : Changes frameBlocks s (receiveBody a b s) :=
  .ite ((changes_lineBusy _).comp (changes_actOnVerdict _ _)) ((changes_lineBusy _).mono (by decide))

theorem changes_receiveHeard (h : Heard) (s : State) : Changes frameBlocks s (receiveHeard h s) :=
  .ite (.refl _ _) (.ite ((changes_lineBusy _).comp (changes_actOnVerdict _ _)) ((changes_lineBusy _).mono (by decide)))

theorem changes_beginAttempt (s : State) : Changes [.link] s (beginAttempt s) := by
  unfold beginAttempt
  refine .ite ?_ (.refl _ _)
  split
  · exact changes_withLink _ _
  · exact .refl _ _

theorem changes_quietGapEnds (s : State) : Changes [.link, .draws] s (quietGapEnds s) :=
  .ite (.refl _ _) ((changes_withLink _ _).comp (changes_tryContend _))

theorem changes_completeAttempt (o : OnLine) (s : State) :
    Changes [.bank, .rail, .link, .draws] s (completeAttempt o s) := by
  unfold completeAttempt
  simp only
  split
  · exact (changes_withLink _ _).mono (by decide)
  · exact (changes_withLink _ _).comp (changes_drawCompleted _ _)

theorem changes_collide (o : OnLine) (s : State) : Changes [.rail, .link, .draws] s (collide o s) :=
  .ite ((((changes_count _ _).trans (changes_withLink _ _))).comp (changes_drawAbandoned _))
    (((changes_count _ _).trans (changes_withLink _ _)).mono (by decide))

theorem changes_endJam (o : OnLine) (s : State) : Changes [.link] s (endJam o s) := changes_withLink _ _

theorem changes_cutOff (s : State) : Changes [.rail, .link, .draws] s (cutOff s) := by
  unfold cutOff
  split
  · exact .refl _ _
  · split
    · exact (changes_endJam _ _).mono (by decide)
    · exact (changes_collide _ _).comp (changes_withLink _ _)

theorem changes_lineComesUp (s : State) : Changes (.rail :: workBlocks) s (lineComesUp s) :=
  .ite (.refl _ _) ((((changes_withLink _ _).comp (changes_recomputeAllowance _) (ds := .rail :: workBlocks)).comp
    (changes_recomputePattern _) (ds := .rail :: workBlocks)).comp (changes_tryContend _))

theorem changes_lineGoesDown (s : State) : Changes (.rail :: workBlocks) s (lineGoesDown s) :=
  .ite ((((changes_cutOff _).comp (changes_withLink _ _) (ds := .rail :: workBlocks)).comp
    (changes_recomputeAllowance _) (ds := .rail :: workBlocks)).comp (changes_recomputePattern _)) (.refl _ _)

theorem changes_passTime (s : State) : Changes [.start, .pipe, .bank, .rail, .touch] s (passTime s) :=
  ((((changes_withStart _ _).comp (changes_withPipe _ _) (ds := [.start, .pipe, .bank, .rail, .touch])).comp
    (changes_withBank _ _) (ds := [.start, .pipe, .bank, .rail, .touch])).comp (changes_withRail _ _)
    (ds := [.start, .pipe, .bank, .rail, .touch])).comp (changes_withTouch _ _)

end Sys2Proof.Machine
end

