-- ==== Sys2Proof/Laws/Frames.lean ====
section
/-!
SUPPORT. How a frame row reaches the operation that its body names, and what joining the transmit queue does while the
line is busy.
-/

set_option Elab.async false

namespace Sys2Proof.Machine

variable {s : State}

theorem whenRunning_running {f : State → State} (h : Running s) : whenRunning s f = .next (f s) := by
  unfold whenRunning; rw [if_neg (by rw [h]; decide)]

theorem Hears.running {a : Byte} (h : Hears s a) : Running s := h.1

theorem Hears.station_ne {a : Byte} (h : Hears s a) : station s ≠ some a := h.2.2.2

/-- Every frame row is a frame of its body. -/
theorem exec_of_frameOf {c : Instr} {a : Byte} {b : Body} (h : frameOf c = some (a, b)) :
    exec c s = whenRunning s (receiveBody a b) := by
  cases c <;> first | (simp only [frameOf, Option.some.injEq, Prod.mk.injEq] at h; obtain ⟨rfl, rfl⟩ := h; rfl) |
    simp [frameOf] at h

theorem lineBusy_eq : lineBusy s = s.withLink (busyLink s) := rfl

@[simp] theorem lineBusy_link : (lineBusy s).link = busyLink s := rfl

@[simp] theorem station_lineBusy : station (lineBusy s) = station s := rfl

@[simp] theorem busyLink_quiet : (busyLink s).quiet = false := rfl

@[simp] theorem busyLink_wait : (busyLink s).wait = none := rfl

theorem onTheLink_of_joined (h : s.start.life = .joined) : onTheLink s = true := by simp [onTheLink, h]

theorem receiveBody_on (b : Body) (a : Byte) (h : onTheLink s = true) :
    receiveBody a b s = actOnVerdict (judgeParsed a b) (lineBusy s) := by
  unfold receiveBody hearFrame; rw [if_pos h]

theorem receiveBody_off (b : Body) (a : Byte) (h : onTheLink s = false) : receiveBody a b s = lineBusy s := by
  unfold receiveBody hearFrame; rw [if_neg (by simp [h])]

theorem receiveBody_hears {a : Byte} {b : Body} (h : Hears s a) (hb : bodyOk b = true) :
    receiveBody a b s = deliver a b (lineBusy s) := by
  obtain ⟨-, h2, h3, h4⟩ := h
  rw [receiveBody_on _ _ h2, judgeParsed, if_neg (by omega), if_pos hb]
  show acceptFrame a b (lineBusy s) = _
  unfold acceptFrame
  rw [station_lineBusy, if_neg h4]

/-- A frame row that is heard is delivered. -/
theorem exec_delivered {c : Instr} {a : Byte} {b : Body} (h : frameOf c = some (a, b)) (hh : Hears s a)
    (hb : bodyOk b = true) : exec c s = .next (deliver a b (lineBusy s)) := by
  rw [exec_of_frameOf h, whenRunning_running hh.running, receiveBody_hears hh hb]

theorem tryContend_of_not_quiet (h : s.link.quiet = false) : tryContend s = s := by
  unfold tryContend; rw [if_neg (by simp [h])]

theorem tryContend_of_not_ready (h : headReady s = false) : tryContend s = s := by
  unfold tryContend; rw [if_neg (by simp [h])]

theorem joinTail_of_not_quiet (f : QFrame) (h : s.link.quiet = false) :
    joinTail f s = s.withLink { (if s.link.queue.isEmpty then s.link.freshBackoff else s.link) with
      queue := s.link.queue ++ [f] } := by
  unfold joinTail
  split <;> exact tryContend_of_not_quiet h

theorem enqueueReply_of_not_quiet (r : Reply) (h : s.link.quiet = false) :
    enqueueReply r s = s.withLink (linkWithReply r s.link) := by
  unfold enqueueReply linkWithReply
  split
  · rfl
  · rw [joinTail_of_not_quiet _ h]
    by_cases hq : s.link.queue = []
    · simp [hq, Link.freshBackoff]
    · simp [hq]

/-- A query row that is taken is answered. -/
theorem exec_query {c : Instr} {a target tag kind : Byte} {arg : List Byte}
    (h : frameOf c = some (a, .query target tag kind arg)) (hq : TakesQuery s a target) (ha : arg.length ≤ 4) :
    exec c s = .next (answerQuery tag kind arg (lineBusy s)) := by
  obtain ⟨hh, hj, ht⟩ := hq
  rw [exec_delivered h hh (by simp [bodyOk, ha])]
  show Host.Outcome.next (if (lineBusy s).start.life = .joined then _ else _) = _
  rw [if_pos (show (lineBusy s).start.life = .joined from hj)]
  unfold takeQuery
  rw [station_lineBusy, if_pos ht]

end Sys2Proof.Machine
end

