-- ==== Sys2Proof/Laws/Notices.lean ====
section
/-!
SUPPORT. What the notices of a plan operation, a settle and a new pattern can do, and that the notices within a settle,
which leave out a second settle check, agree with the full ones.
-/

set_option Elab.async false

namespace Sys2Proof.Machine

variable (s : State)

/-! ### The transmit queue on a busy line -/

/-- What joining the queue and renewing a queued frame leave of the link controller. -/
def Link.Kept (l m : Link) : Prop := m.lineUp = l.lineUp ∧ m.quiet = l.quiet ∧ m.clash = l.clash

theorem Link.Kept.trans {l m n : Link} (h : Link.Kept l m) (g : Link.Kept m n) : Link.Kept l n :=
  ⟨g.1.trans h.1, g.2.1.trans h.2.1, g.2.2.trans h.2.2⟩

theorem kept_tryContend : Link.Kept s.link (tryContend s).link := by
  unfold tryContend; split <;> exact ⟨rfl, rfl, rfl⟩

theorem kept_joinTail (f : QFrame) : Link.Kept s.link (joinTail f s).link := by
  unfold joinTail
  refine Link.Kept.trans ?_ (kept_tryContend _)
  dsimp only [State.withLink_link]
  split <;> exact ⟨rfl, rfl, rfl⟩

theorem kept_makeRoom : Link.Kept s.link (makeRoom s).link := by
  unfold makeRoom count
  dsimp only [State.withLink_link]
  split <;> exact ⟨rfl, rfl, rfl⟩

theorem kept_enqueueAnnounce (k : Announce) : Link.Kept s.link (enqueueAnnounce k s).link := by
  unfold enqueueAnnounce renewQueued
  split
  · dsimp only
    split
    · exact ⟨rfl, rfl, rfl⟩
    · split <;> exact ⟨rfl, rfl, rfl⟩
  · split
    · exact kept_joinTail _ _
    · exact (kept_makeRoom s).trans (kept_joinTail _ _)

theorem draws_joinTail (f : QFrame) (h : s.link.quiet = false) : (joinTail f s).draws = s.draws := by
  rw [joinTail_of_not_quiet f h]; rfl

theorem draws_enqueueAnnounce (k : Announce) (h : s.link.quiet = false) : (enqueueAnnounce k s).draws = s.draws := by
  unfold enqueueAnnounce
  split
  · exact (changes_renewQueued k s).draws
  · split
    · exact draws_joinTail _ _ h
    · rw [draws_joinTail _ _ ((kept_makeRoom s).2.1.trans h)]; exact (changes_makeRoom s).draws

/-! ### The row pipeline and the hold timer -/

theorem lookForRow_touch : (lookForRow s).touch = { s.touch with driftTimer := (lookForRow s).touch.driftTimer } := by
  unfold lookForRow
  split
  · unfold stopDrift
    dsimp only [State.withTouch_touch]
    rw [(changes_admitRow _).touch]; rfl
  · rfl

theorem judgeHold_touch : (judgeHold s).touch = { s.touch with holdPhase := (judgeHold s).touch.holdPhase } := by
  unfold judgeHold
  split
  · split <;> rfl
  · split <;> rfl
  · rfl
  · rfl

theorem quietNotices_touch : (quietNotices s).touch =
    { s.touch with driftTimer := (quietNotices s).touch.driftTimer, holdPhase := (quietNotices s).touch.holdPhase } := by
  unfold quietNotices
  rw [judgeHold_touch, lookForRow_touch]

theorem quietNotices_lines : (quietNotices s).touch.lines = s.touch.lines := by rw [quietNotices_touch]

/-! ### The pattern -/

/-- The pattern's inputs. -/
theorem patternOf_congr {s t : State} (h1 : t.start = s.start) (h2 : t.page.turned = s.page.turned)
    (h3 : t.page.state = s.page.state) (h4 : t.page.outcome = s.page.outcome) (h5 : t.rail.view = s.rail.view)
    (h6 : t.touch.lines = s.touch.lines) (h7 : t.link.lineUp = s.link.lineUp) : patternOf t = patternOf s := by
  unfold patternOf pageReady attention
  rw [h1, h2, h3, h4, h5, h6, h7]

/-- The current pattern is the one its inputs give (R161). -/
def PatternRight (s : State) : Prop := s.pattern = patternOf s

theorem PatternRight.quietNotices {s : State} (h : PatternRight s) : PatternRight (quietNotices s) := by
  have c := changes_quietNotices s
  unfold PatternRight
  rw [c.pattern, patternOf_congr c.start (by rw [c.page]) (by rw [c.page]) (by rw [c.page]) (by rw [c.rail])
    (quietNotices_lines s) (by rw [c.link])]
  exact h

theorem setPattern_right : PatternRight (setPattern s) := rfl

theorem refreshRows_right {s : State} (rows : List Nat) (h : PatternRight s) : PatternRight (refreshRows rows s) := by
  have c := changes_refreshRows rows s
  unfold PatternRight
  rw [c.pattern, patternOf_congr c.start (by rw [c.page]) (by rw [c.page]) (by rw [c.page]) (by rw [c.rail])
    (by rw [c.touch]) (by rw [c.link])]
  exact h

theorem recomputePatternWith_right {notify : State → State} (hn : ∀ s, PatternRight s → PatternRight (notify s)) :
    PatternRight (recomputePatternWith notify s) := by
  unfold recomputePatternWith
  split
  · rename_i h; exact h.symm
  · split
    · exact setPattern_right s
    · exact hn _ (refreshRows_right _ (setPattern_right s))

theorem settlePage_right : PatternRight (settlePage s) :=
  recomputePatternWith_right _ (fun _ h => h.quietNotices)

theorem PatternRight.settleCheck {s : State} (h : PatternRight s) : PatternRight (settleCheck s) := by
  unfold Machine.settleCheck; split
  · exact settlePage_right s
  · exact h

theorem PatternRight.planNotices {s : State} (h : PatternRight s) : PatternRight (planNotices s) :=
  (h.quietNotices).settleCheck

theorem recomputePattern_right : PatternRight (recomputePattern s) :=
  recomputePatternWith_right _ (fun _ h => h.planNotices)

/-! ### The page -/

/-- The page but for what a settle writes, and all of it unless the page is WORKING. -/
def SamePage (s t : State) : Prop :=
  t.page = { s.page with
    state := t.page.state, outcome := t.page.outcome, detail := t.page.detail, record := t.page.record } ∧
  (s.page.state ≠ .working → t.page = s.page)

theorem SamePage.refl : SamePage s s := ⟨rfl, fun _ => rfl⟩

theorem SamePage.of_page {s t : State} (h : t.page = s.page) : SamePage s t :=
  ⟨by rw [h], fun _ => h⟩

theorem SamePage.trans {s t u : State} (h : SamePage s t) (g : SamePage t u) : SamePage s u := by
  constructor
  · rw [g.1, h.1]
  · intro hs
    have e := h.2 hs
    rw [g.2 (by rw [e]; exact hs), e]

/-- What page work leaves of a tile: its page but for what a settle writes, and, unless a page is WORKING, its link
controller. -/
structure WorkKept (s t : State) : Prop where
  page : SamePage s t
  link : s.page.state ≠ .working → t.link = s.link ∧ t.draws = s.draws
  kept : Link.Kept s.link t.link
  draws : s.link.quiet = false → t.draws = s.draws
  faults : t.plan.faults = s.plan.faults
  lines : t.touch.lines = s.touch.lines
  holdTime : t.touch.holdTime = s.touch.holdTime
  rotation : t.touch.rotation = s.touch.rotation

theorem WorkKept.refl : WorkKept s s :=
  ⟨.refl s, fun _ => ⟨rfl, rfl⟩, ⟨rfl, rfl, rfl⟩, fun _ => rfl, rfl, rfl, rfl, rfl⟩

theorem WorkKept.trans {s t u : State} (h : WorkKept s t) (g : WorkKept t u) : WorkKept s u where
  page := h.page.trans g.page
  link hs := by
    have e := h.page.2 hs
    have a := h.link hs
    have b := g.link (by rw [e]; exact hs)
    exact ⟨b.1.trans a.1, b.2.trans a.2⟩
  kept := h.kept.trans g.kept
  draws hq := (g.draws (h.kept.2.1.trans hq)).trans (h.draws hq)
  faults := g.faults.trans h.faults
  lines := g.lines.trans h.lines
  holdTime := g.holdTime.trans h.holdTime
  rotation := g.rotation.trans h.rotation

theorem setJob_faults (r : Nat) (j : Option Job) : (setJob r j s).plan.faults = s.plan.faults := rfl

theorem refreshRow_faults (r : Nat) : (refreshRow s r).plan.faults = s.plan.faults := by
  unfold refreshRow; split <;> rfl

theorem refreshRows_faults (rows : List Nat) : (refreshRows rows s).plan.faults = s.plan.faults := by
  unfold refreshRows
  induction rows generalizing s with
  | nil => rfl
  | cons r rows ih => rw [List.foldl_cons, ih, refreshRow_faults]

theorem rebuildPlan_faults : (rebuildPlan s).plan.faults = s.plan.faults := by
  unfold rebuildPlan
  generalize allRows s = rows
  induction rows generalizing s with
  | nil => rfl
  | cons r rows ih =>
    rw [List.foldl_cons, ih]
    unfold rebuildRow; split <;> rfl

theorem workKept_refreshRows (rows : List Nat) : WorkKept s (refreshRows rows s) := by
  have c := changes_refreshRows rows s
  exact ⟨.of_page c.page, fun _ => ⟨c.link, c.draws⟩, by rw [c.link]; exact ⟨rfl, rfl, rfl⟩, fun _ => c.draws,
    refreshRows_faults s rows, by rw [c.touch], by rw [c.touch], by rw [c.touch]⟩

theorem workKept_quietNotices : WorkKept s (quietNotices s) := by
  have c := changes_quietNotices s
  exact ⟨.of_page c.page, fun _ => ⟨c.link, c.draws⟩, by rw [c.link]; exact ⟨rfl, rfl, rfl⟩, fun _ => c.draws,
    by rw [c.plan], quietNotices_lines s, by rw [quietNotices_touch], by rw [quietNotices_touch]⟩

theorem workKept_setPattern : WorkKept s (setPattern s) :=
  ⟨.of_page rfl, fun _ => ⟨rfl, rfl⟩, ⟨rfl, rfl, rfl⟩, fun _ => rfl, rfl, rfl, rfl, rfl⟩

theorem workKept_recomputePatternWith {notify : State → State} (hn : ∀ s, WorkKept s (notify s)) :
    WorkKept s (recomputePatternWith notify s) := by
  unfold recomputePatternWith
  split
  · exact .refl s
  · split
    · exact workKept_setPattern s
    · exact ((workKept_setPattern s).trans (workKept_refreshRows _ _)).trans (hn _)

/-- A settle on a page that is WORKING. -/
theorem workKept_settlePage (h : s.page.state = .working) : WorkKept s (settlePage s) := by
  unfold settlePage
  refine WorkKept.trans ?_ (workKept_recomputePatternWith _ workKept_quietNotices)
  obtain ⟨u, hu, h1, h2, h3, h4, h5⟩ : ∃ u, announce s.page.turned (settleOutcome (stuckOffCount s)) (stuckOffCount s)
      (s.withPage { s.page with state := .settled, outcome := settleOutcome (stuckOffCount s), detail := stuckOffCount s })
        = enqueueAnnounce .settled u ∧ u.link = s.link ∧ u.draws = s.draws ∧ u.plan = s.plan ∧ u.touch = s.touch ∧
          u.page = { s.page with
            state := .settled, outcome := settleOutcome (stuckOffCount s), detail := stuckOffCount s
            record := ⟨s.page.turned, settleOutcome (stuckOffCount s), stuckOffCount s⟩ } := ⟨_, rfl, rfl, rfl, rfl, rfl, rfl⟩
  rw [hu]
  have c := changes_enqueueAnnounce .settled u
  have k := kept_enqueueAnnounce u .settled
  have d := draws_enqueueAnnounce u .settled
  rw [h1] at k d
  rw [h2] at d
  refine ⟨⟨?_, fun hn => absurd h hn⟩, fun hn => absurd h hn, k, d, ?_, ?_, ?_, ?_⟩
  · rw [c.page, h5]
  · rw [c.plan, h3]
  · rw [c.touch, h4]
  · rw [c.touch, h4]
  · rw [c.touch, h4]

theorem workKept_settleCheck : WorkKept s (settleCheck s) := by
  unfold settleCheck
  split
  · rename_i h
    refine workKept_settlePage s ?_
    simp only [canSettle, Bool.and_eq_true, beq_iff_eq] at h
    exact h.1.1
  · exact .refl s

theorem workKept_planNotices : WorkKept s (planNotices s) :=
  (workKept_quietNotices s).trans (workKept_settleCheck _)

theorem workKept_recomputePattern : WorkKept s (recomputePattern s) :=
  workKept_recomputePatternWith s workKept_planNotices

/-- The notices within a settle leave out the settle check, which could not succeed: the page is then SETTLED. -/
theorem planNotices_eq_quietNotices (h : s.page.state ≠ .working) : planNotices s = quietNotices s := by
  unfold planNotices settleCheck
  rw [if_neg]
  simp only [canSettle, Bool.and_eq_true, beq_iff_eq, not_and]
  intro h1
  rw [(changes_quietNotices s).page] at h1
  exact absurd h1.1 h

end Sys2Proof.Machine
end

