-- ==== Sys2Proof/Laws/Allowance.lean ====
section
/-!
SUPPORT. What the shared operations of the transmit queue, the rail share and the charge bank do.
-/

set_option Elab.async false

namespace Sys2Proof.Machine

variable (s : State)

/-! ### The transmit queue -/

/-- R24, R25: contention changes the wait alone, and draws a slot below the window when the head is ready on a quiet
line. -/
theorem tryContend_link : (tryContend s).link =
    if headReady s && s.link.quiet && s.link.wait.isNone then
      { s.link with wait := some (Config.slotDraw s.draws % s.link.window) }
    else s.link := by
  unfold tryContend
  split <;> rfl

theorem tryContend_queue : (tryContend s).link.queue = s.link.queue := by
  rw [tryContend_link]; split <;> rfl

theorem joinTail_queue (f : QFrame) : (joinTail f s).link.queue = s.link.queue ++ [f] := by
  unfold joinTail
  rw [tryContend_queue]
  dsimp only [State.withLink_link]
  split <;> rfl

/-- R30: after an announcement is queued, the queue holds one of its kind. -/
theorem queued_enqueueAnnounce (k : Announce) : Queued k (enqueueAnnounce k s) := by
  unfold Queued enqueueAnnounce
  split
  · rename_i h
    unfold renewQueued
    dsimp only
    split
    · rcases hq : s.link.queue with _ | ⟨x, xs⟩
      · rw [hq] at h; simp at h
      · rw [hq] at h
        cases x <;> simp_all [mapHead, QFrame.marked, QFrame.isAnnounce]
    · split <;> exact h
  · split
    · rw [joinTail_queue]; simp [QFrame.isAnnounce]
    · rw [joinTail_queue]; simp [QFrame.isAnnounce]

/-- The link controller after an announcement depends on the life state, the link controller and the draws alone. -/
theorem enqueueAnnounce_link_congr (k : Announce) {s t : State} (h1 : t.start = s.start) (h2 : t.link = s.link)
    (h3 : t.draws = s.draws) : (enqueueAnnounce k t).link = (enqueueAnnounce k s).link := by
  have tc : ∀ s t : State, t.start = s.start → t.link = s.link → t.draws = s.draws →
      (tryContend t).link = (tryContend s).link := by
    intro s t h1 h2 h3
    have e : headReady t = headReady s := by unfold headReady; rw [h1, h2]
    rw [tryContend_link, tryContend_link, e, h2, h3]
  have jt : ∀ f (s t : State), t.start = s.start → t.link = s.link → t.draws = s.draws →
      (joinTail f t).link = (joinTail f s).link := by
    intro f s t h1 h2 h3
    unfold joinTail
    exact tc _ _ h1 (by simp [h2]) h3
  have mr : (makeRoom t).link = (makeRoom s).link := by
    unfold makeRoom count; simp [h2]
  unfold enqueueAnnounce
  rw [h2]
  split
  · unfold renewQueued
    rw [h2]
    dsimp only
    split
    · rfl
    · split
      · rfl
      · exact h2
  · split
    · exact jt _ _ _ h1 h2 h3
    · refine jt _ _ _ ?_ mr ?_
      · rw [(changes_makeRoom t).start, (changes_makeRoom s).start, h1]
      · rw [(changes_makeRoom t).draws, (changes_makeRoom s).draws, h3]

/-! ### The rail share -/

theorem judgeRise_rail : (judgeRise s).rail = { s.rail with rise := (judgeRise s).rail.rise } := by
  unfold judgeRise
  split
  · rfl
  · split <;> rfl

/-- R134: a rise after a judgement keeps its target and its awaited demand. -/
theorem judgeRise_rise {r : Rise} (h : s.rail.rise = some r) : ∃ p, (judgeRise s).rail.rise = some { r with phase := p } := by
  unfold judgeRise
  rw [h]
  dsimp only
  split
  · exact ⟨_, rfl⟩
  · exact ⟨r.phase, h⟩

/-- R131, R133, R134: what the application of a computation's result does. -/
theorem applyAllowance_spec (a : Nat) :
    (applyAllowance a s).rail.view = s.rail.view ∧ (applyAllowance a s).rail.refreshTimer = s.rail.refreshTimer ∧
      (applyAllowance a s).rail.computed = a ∧ AllowanceApplied s (applyAllowance a s) := by
  have hc := changes_applyAllowance a s
  have h1 := hc.start
  have h2 := hc.bank
  have h3 := hc.link
  unfold AllowanceApplied
  rw [h1, h2, h3]
  unfold applyAllowance
  by_cases h : a ≤ s.rail.applied
  · simp [h]
  · have hm : s.rail.applied = min s.rail.applied a := by omega
    rcases hr : s.rail.rise with _ | r
    · simp [h, newRise, riseHeld, hm.symm]
    · by_cases ht : r.target = a
      · simp only [State.withRail_rail, if_neg h, ht, if_true]
        unfold judgeRise holdReleased
        simp only [State.withRail_rail, State.withRail_start, State.withRail_link, State.withRail_bank, hr]
        by_cases hp : r.phase = .held ∧ s.start.life = .joined ∧
            (s.link.lineUp = false ∨ r.awaited ≤ s.bank.lastAnnounced)
        · simp [hp, h, ht, hm.symm]
        · have hn : ¬ (r.phase = .held ∧ (s.start.life == .joined && (!s.link.lineUp ||
              decide (r.awaited ≤ s.bank.lastAnnounced))) = true) := by simpa using hp
          rw [if_neg hn]
          simp [hp, h, hm.symm]
      · simp [h, ht, newRise, riseHeld, hm.symm]

/-- R130, R131: the allowance recomputed on the link. -/
theorem recomputeAllowance_spec {c : Settings} (hc : s.start.settings = some c) (ho : onTheLink s = true) :
    AllowanceRecomputed c s (recomputeAllowance s) := by
  have he : recomputeAllowance s = applyAllowance (computeAllowance c s.bank.demand s.rail.view s.link.lineUp) s := by
    unfold recomputeAllowance
    rw [hc]
    exact if_pos ho
  obtain ⟨h1, h2, h3, h4⟩ := applyAllowance_spec s (computeAllowance c s.bank.demand s.rail.view s.link.lineUp)
  rw [← he] at h1 h2 h3 h4
  have hb := (changes_recomputeAllowance s).bank
  have hl := (changes_recomputeAllowance s).link
  exact ⟨h1, h2, by rw [h3, hb, hl, h1], h4⟩

/-- R130: in CONFIG and SCAN nothing is computed. -/
theorem recomputeAllowance_off (h : onTheLink s = false) : recomputeAllowance s = s := by
  unfold recomputeAllowance
  split
  · rfl
  · rw [h]; rfl

/-! ### The charge bank -/

/-- R113: own demand is a multiple of 50, at most 600, and covers what is asked for. -/
theorem demandOf_spec (c : Nat) : demandOf c ≤ 600 ∧ demandOf c % 50 = 0 ∧ min 600 (4000 - c) ≤ demandOf c ∧
    demandOf c < min 600 (4000 - c) + 50 := by
  unfold demandOf fullDemand bankLimit
  omega

/-- R113: own demand worked out afresh: the charge stays, and own demand is the one its charge gives. -/
theorem updateDemand_bank : (updateDemand s).bank = { s.bank with demand := demandOf s.bank.charge } := by
  unfold updateDemand
  dsimp only
  split
  · rename_i h; rw [h]
  · rw [(changes_recomputeAllowance _).bank, (changes_announceDemand _).bank]; rfl

/-- R111: a strike paid for. -/
theorem pay_bank (cost : Nat) : (pay cost s).bank =
    { s.bank with charge := s.bank.charge - cost, demand := demandOf (s.bank.charge - cost) } := by
  unfold pay
  rw [updateDemand_bank]
  rfl

/-- R97: a firing attempt on the row in STRIKE. -/
theorem tryFire_pipe {x : Slot} (h : s.pipe.strike = some x) : (tryFire s).pipe =
    if canFire s x then
      { s.pipe with strike := some { x with fired := true }, matrix := some ⟨x.row, x.moves, x.level⟩ }
    else s.pipe := by
  unfold tryFire
  rw [h]
  dsimp only
  split
  · rw [(changes_pay _ _).pipe]; rfl
  · rfl

end Sys2Proof.Machine
end

