-- ==== Sys2Proof/Laws/Plan.lean ====
section
/-!
SUPPORT. What the shared operations of the plan keeper, the pin images and the row pipeline do: pins of a set and of a
written row, the jobs after a write, a refresh and a rebuild, the look for a row, the fence, the hold judgement.
-/

set_option Elab.async false

namespace Sys2Proof.Machine

variable (s : State)

/-! ### Pins -/

theorem getLsbD_pinSet (n : Nat) (f : Nat → Bool) (hn : n ≤ 20) (p : Nat) :
    (pinSet n f).getLsbD p = (decide (p < n) && f p) := by
  induction n with
  | zero => simp [pinSet]
  | succ n ih =>
    have one : (1#20 <<< n).getLsbD p = decide (p = n) := by
      rw [BitVec.getLsbD_shiftLeft, BitVec.getLsbD_one]
      by_cases h : p = n
      · subst h; simp; omega
      · by_cases h2 : p < n
        · simp [h2, h]
        · have : p - n ≠ 0 := by omega
          simp [h, this]
    rw [pinSet, BitVec.getLsbD_or, ih (by omega)]
    by_cases h : p = n
    · subst h
      cases hf : f p
      · simp
      · rw [if_pos rfl, one]; simp
    · have e : decide (p < n + 1) = decide (p < n) := decide_eq_decide.2 (by omega)
      rw [e]
      cases hf : f n
      · simp
      · rw [if_pos rfl, one]; simp [h]

theorem getLsbD_imageRow (img : Image) (cc r p : Nat) (hc : cc ≤ 10) :
    (imageRow img cc r).getLsbD p = (decide (p < 2 * cc) && pinUp img cc r p) :=
  getLsbD_pinSet _ _ (by omega) _

/-- R9: a written row holds what was sensed, and every other row of the image stays. -/
theorem pinUp_writeRow (img : Image) (cc r r' p : Nat) (x : PinSet) (hp : p < 2 * cc)
    (hr : r' / 4 * cc + p / 2 < img.length) :
    pinUp (writeRow img cc r x) cc r' p = if r' = r then x.getLsbD p else pinUp img cc r' p := by
  have hc : p / 2 < cc := by omega
  have d1 : (r' / 4 * cc + p / 2) / cc = r' / 4 := by
    rw [Nat.mul_comm, Nat.mul_add_div (by omega), Nat.div_eq_of_lt hc]; rfl
  have d2 : (r' / 4 * cc + p / 2) % cc = p / 2 := by
    rw [Nat.mul_comm, Nat.mul_add_mod, Nat.mod_eq_of_lt hc]
  unfold pinUp cellAt writeRow
  simp only [List.getD_eq_getElem?_getD, List.getElem?_mapIdx, List.getElem?_eq_getElem hr, Option.map_some,
    Option.getD_some, d1, d2]
  generalize img[r' / 4 * cc + p / 2] = b
  have two : p = 2 * (p / 2) ∨ p = 2 * (p / 2) + 1 := by omega
  have bits : ∀ (a c : Nat) (u v : Bool), a < 4 → c < 4 → ∀ q : Nat, q < 2 →
      (setDotRow b a u v).getLsbD (dotBit c q) = if c = a then (if q = 0 then u else v) else b.getLsbD (dotBit c q) := by
    intro a c u v ha hc q hq
    have shift : ∀ j : Nat, j < 8 → ∀ k : Nat, k < 8 → (1#8 <<< k).getLsbD j = decide (j = k) := by decide
    have set1 : ∀ (b : Byte) (k j : Nat) (w : Bool), j < 8 → k < 8 →
        (setBit b k w).getLsbD j = if j = k then w else b.getLsbD j := by
      intro b k j w hj hk
      unfold setBit
      cases w
      · simp only [Bool.false_eq_true, if_false, BitVec.getLsbD_and, BitVec.getLsbD_not, shift j hj k hk]
        by_cases h : j = k <;> simp [h, hk]
        intro hb
        omega
      · simp only [if_true, BitVec.getLsbD_or, shift j hj k hk]
        by_cases h : j = k <;> simp [h]
    have db : ∀ a : Nat, a < 4 → ∀ q : Nat, q < 2 → dotBit a q < 8 := by decide
    have inj : ∀ a : Nat, a < 4 → ∀ c : Nat, c < 4 → ∀ q : Nat, q < 2 → ∀ q' : Nat, q' < 2 →
        (dotBit c q = dotBit a q' ↔ c = a ∧ q = q') := by decide
    unfold setDotRow
    rw [set1 _ _ _ _ (db c hc q hq) (db a ha 1 (by omega)), set1 _ _ _ _ (db c hc q hq) (db a ha 0 (by omega))]
    simp only [inj a ha c hc q hq 1 (by omega), inj a ha c hc q hq 0 (by omega)]
    by_cases hca : c = a
    · have : q = 0 ∨ q = 1 := by omega
      rcases this with h | h <;> simp [hca, h]
    · simp [hca]
  by_cases h4 : r' / 4 = r / 4
  · rw [if_pos h4, bits _ _ _ _ (by omega) (by omega) _ (by omega)]
    by_cases hm : r' % 4 = r % 4
    · have e : r' = r := by omega
      rw [if_pos hm, if_pos e]
      rcases two with h | h
      · have : p % 2 = 0 := by omega
        rw [if_pos this, ← h]
      · have : p % 2 ≠ 0 := by omega
        rw [if_neg this, ← h]
    · have e : r' ≠ r := by intro h; subst h; exact hm rfl
      rw [if_neg hm, if_neg e]
  · have e : r' ≠ r := by intro h; subst h; exact h4 rfl
    rw [if_neg h4, if_neg e]

/-! ### Jobs -/

theorem jobAt_setJob (r r' : Nat) (j : Option Job) :
    jobAt (setJob r j s) r' = if r = r' ∧ r < 24 then j else jobAt s r' := by
  unfold jobAt setJob
  simp only [State.withPlan_plan, Vector.getElem?_setIfInBounds]
  by_cases h : r = r'
  · subst h
    by_cases hr : r < 24
    · simp [hr]
    · simp [hr]
  · simp [h]

@[simp] theorem jobAt_removeJob (r r' : Nat) : jobAt (removeJob r s) r' = if r = r' then none else jobAt s r' := by
  rw [removeJob, jobAt_setJob]
  by_cases h : r = r'
  · subst h
    by_cases hr : r < 24
    · simp [hr]
    · simp [hr, jobAt]
  · simp [h]

theorem jobAt_writeJob (r r' : Nat) (m : Moves) (a : Nat) : jobAt (writeJob r m a s) r' =
    if r = r' ∧ r < 24 then some { moves := m, attempt := a, level := levelAt (baseLevel s r m) a } else jobAt s r' := by
  rw [writeJob, jobAt_setJob]

/-- R68: what a diff is made from. -/
theorem diff_congr {s t : State} (h1 : t.start = s.start) (h2 : t.page.target = s.page.target) (h3 : t.shown = s.shown)
    (h4 : t.pattern = s.pattern) (h5 : t.plan.faults = s.plan.faults) (r : Nat) : diff t r = diff s r := by
  simp only [diff, targetRow, targetEff, shownRow, stuckPins, faultAt, statusCell, cellCount, colCount, h1, h2, h3, h4,
    h5]

theorem baseLevel_congr {s t : State} (h1 : t.start = s.start) (h2 : t.plan.faults = s.plan.faults) (r : Nat)
    (m : Moves) : baseLevel t r m = baseLevel s r m := by
  have w : weakPins t r = weakPins s r := by simp only [weakPins, faultAt, colCount, cellCount, h1, h2]
  unfold baseLevel
  rw [w]

@[simp] theorem diff_setJob (r r' : Nat) (j : Option Job) : diff (setJob r j s) r' = diff s r' :=
  diff_congr rfl rfl rfl rfl rfl r'

/-- R73: a refreshed row's job, and every other row's. -/
theorem jobAt_refreshRow (r r' : Nat) (hr : r < 24) : jobAt (refreshRow s r) r' =
    if r = r' then
      if (diff s r).isEmpty then none
      else some { moves := diff s r, attempt := refreshAttempt s r
                  level := levelAt (baseLevel s r (diff s r)) (refreshAttempt s r) }
    else jobAt s r' := by
  unfold refreshRow
  split
  · simp
  · simp [jobAt_writeJob, hr]

/-- R74: a row outside the group refreshed keeps its job. -/
theorem jobAt_refreshRows_other (rows : List Nat) (r : Nat) (h : r ∉ rows) (hr : ∀ x ∈ rows, x < 24) :
    jobAt (refreshRows rows s) r = jobAt s r := by
  unfold refreshRows
  induction rows generalizing s with
  | nil => rfl
  | cons x rows ih =>
    simp only [List.mem_cons, not_or] at h hr
    rw [List.foldl_cons, ih _ h.2 (fun y hy => hr y (.inr hy)), jobAt_refreshRow _ _ _ (hr x (.inl rfl)),
      if_neg (Ne.symm h.1)]

/-- R71, R72: the plan after a rebuild. -/
theorem jobAt_rebuildPlan (h : rowCount s ≤ 24) (r : Nat) :
    jobAt (rebuildPlan s) r = if r < rowCount s then freshJob s r else jobAt s r := by
  have key : ∀ (rows : List Nat) (t : State), rows.Nodup → (∀ x ∈ rows, x < 24) →
      jobAt (rows.foldl rebuildRow t) r = if r ∈ rows then freshJob t r else jobAt t r := by
    intro rows
    induction rows with
    | nil => intros; simp
    | cons x rows ih =>
      intro t hn hx
      obtain ⟨hxr, hn⟩ := List.nodup_cons.1 hn
      have hx0 : x < 24 := hx x (by simp)
      have fr : ∀ y, freshJob (rebuildRow t x) y = freshJob t y := by
        intro y
        have d : diff (rebuildRow t x) y = diff t y := by
          unfold rebuildRow; split
          · exact diff_setJob _ _ _ _
          · exact diff_setJob _ _ _ _
        have b : ∀ m, baseLevel (rebuildRow t x) y m = baseLevel t y m := by
          intro m; unfold rebuildRow; split <;> exact baseLevel_congr rfl rfl _ _
        unfold freshJob; rw [d, b]
      rw [List.foldl_cons, ih _ hn (fun y hy => hx y (by simp [hy])), fr]
      by_cases hy : r = x
      · subst hy
        rw [if_neg hxr, if_pos (by simp)]
        unfold rebuildRow freshJob
        split
        · simp
        · simp [jobAt_writeJob, hx0, levelAt]
      · by_cases hm : r ∈ rows
        · rw [if_pos hm, if_pos (by simp [hm])]
        · rw [if_neg hm, if_neg (by simp [hy, hm])]
          have hyx : x ≠ r := fun e => hy e.symm
          unfold rebuildRow
          split
          · simp [hyx]
          · simp [hyx, jobAt_writeJob]
  unfold rebuildPlan allRows
  rw [key _ _ List.nodup_range (fun x hx => by have := List.mem_range.1 hx; omega)]
  simp only [List.mem_range]

/-! ### The row pipeline -/

theorem jobAt_some_lt {r : Nat} (h : (jobAt s r).isSome = true) : r < 24 := by
  by_contra hr
  unfold jobAt at h
  rw [Vector.getElem?_eq_none (by omega)] at h
  simp at h

/-- R90: with the slots empty, a row is eligible exactly when it has a job on an open line. -/
theorem eligible_of_slotsEmpty (h : slotsEmpty s = true) (r : Nat) :
    eligible s r = ((jobAt s r).isSome && !lineClosed s (r / 4)) := by
  unfold slotsEmpty at h
  simp only [Bool.and_eq_true, Option.isNone_iff_eq_none] at h
  obtain ⟨⟨⟨h1, h2⟩, h3⟩, h4⟩ := h
  simp [eligible, inFlight, slotHas, h1, h2, h3, h4]

/-- R91: an admission into an empty LOAD slot. -/
theorem admitRow_some {r : Nat} {j : Job} (h1 : s.pipe.load = none) (h2 : eligibleRow s = some r)
    (h3 : jobAt s r = some j) : admitRow s = s.withPipe { s.pipe with load := some (snapshot r j) } := by
  simp only [admitRow, h1, h2, h3]

/-- R91, R92: what a look for a row does on an IDLE engine whose slots are empty. -/
theorem lookForRow_spec (hi : s.pipe.engine = .idle) (ho : onTheLink s = true) (he : slotsEmpty s = true) :
    LookedForRow s (lookForRow s) := by
  have el := eligible_of_slotsEmpty s he
  unfold lookForRow
  rcases hr : eligibleRow s with _ | r
  · rw [if_neg (by simp)]
    refine .inl ⟨rfl, fun r hj => ?_⟩
    have := List.find?_eq_none.1 hr r (List.mem_range.2 (jobAt_some_lt s hj))
    rw [el, hj] at this
    simpa using this
  · rw [if_pos ⟨hi, ho, rfl⟩]
    have hmem := List.find?_some hr
    rw [el] at hmem
    simp only [Bool.and_eq_true, Bool.not_eq_true'] at hmem
    obtain ⟨j, hj⟩ := Option.isSome_iff_exists.1 hmem.1
    have hload : s.pipe.load = none := by
      unfold slotsEmpty at he
      simp only [Bool.and_eq_true, Option.isNone_iff_eq_none] at he
      exact he.1.1.1
    rw [admitRow_some (s.withPipe { s.pipe with engine := .running, stepTimer := some 0 }) (r := r) (j := j) hload hr hj]
    refine .inr ⟨r, j, rfl, hj, hmem.2, fun r' hlt hs => ?_⟩
    have hr24 : r < 24 := jobAt_some_lt s hmem.1
    have nf : eligible s r' = false := by
      obtain ⟨_, as, bs, hab, hna⟩ := List.find?_eq_some_iff_append.1 hr
      have hx : r' ∈ as := by
        have hin : r' ∈ as ++ r :: bs := by rw [← hab]; exact List.mem_range.2 (by omega)
        rcases List.mem_append.1 hin with h | h
        · exact h
        · have hs : (as ++ r :: bs).Pairwise (· < ·) := by rw [← hab]; exact List.pairwise_lt_range
          have := (List.pairwise_cons.1 (List.pairwise_append.1 hs).2.1).1
          rcases List.mem_cons.1 h with e | e
          · omega
          · have := this r' e; omega
      simpa using hna r' hx
    have hs' : (jobAt s r').isSome = true := hs
    rw [el, hs'] at nf
    have closed : lineClosed s (r' / 4) = true := by simpa using nf
    exact closed

theorem dropUnfired_all (slot : Option Slot) : dropUnfired (fun _ => true) slot = keepFired slot := by
  rcases slot with _ | x
  · rfl
  · unfold dropUnfired keepFired
    cases h : x.fired <;> simp [Option.filter, h]

/-- R102: what a fence does by the engine state. -/
theorem fence_pipe : (fence s).pipe = if s.pipe.engine = .running then fenced s.pipe else s.pipe := by
  unfold fence
  rcases h : s.pipe.engine with _ | _ | _
  · simp
  · simp only [dropUnfired_all, State.withPipe_pipe, if_pos]; rfl
  · simp

/-! ### The hold timer -/

/-- R149: the hold condition judged. -/
theorem judgeHold_phase : (judgeHold s).touch.holdPhase =
    if s.touch.holdPhase = .running ∨ s.touch.holdPhase = .paused then
      if holdCondition s then .running else .paused
    else s.touch.holdPhase := by
  unfold judgeHold
  rcases h : s.touch.holdPhase with _ | _ | _ | _ <;> simp [h] <;> split <;> simp [*]

end Sys2Proof.Machine
end

