-- ==== Sys2Proof/Laws/Wire.lean ====
section
/-!
SUPPORT. The line coding of R15: what reading a line's readings does with a character; and the check of R18: its shifts
are linear, and bytes are fed one after another.
-/

namespace Sys2Proof.Machine

@[simp] theorem charBits_length (b : Byte) : (charBits b).length = 10 := by simp [charBits]

/-- The eight data bits of a character, read least significant first, are the character. -/
theorem dataByte_bits (b : Byte) :
    dataByte (b.getLsbD 0) (b.getLsbD 1) (b.getLsbD 2) (b.getLsbD 3) (b.getLsbD 4) (b.getLsbD 5) (b.getLsbD 6)
      (b.getLsbD 7) = b := by
  revert b; decide

/-- A character ahead of other readings is read back, and breaks nothing. -/
theorem readChars_charBits_append (b : Byte) (rest : List Bool) :
    readChars (charBits b ++ rest) = ((readChars rest).1, b :: (readChars rest).2) := by
  show (!true || _, dataByte _ _ _ _ _ _ _ _ :: _) = _
  rw [dataByte_bits]; rfl

/-! ### The check -/

theorem crcShift_xor (a b : Half) : crcShift (a ^^^ b) = crcShift a ^^^ crcShift b := by
  unfold crcShift
  rw [BitVec.msb_xor, BitVec.shiftLeft_xor_distrib]
  cases a.msb <;> cases b.msb <;> simp [BitVec.xor_assoc, BitVec.xor_comm]
  ac_rfl

theorem crcShifts_xor (k : Nat) (a b : Half) : crcShifts k (a ^^^ b) = crcShifts k a ^^^ crcShifts k b := by
  induction k generalizing a b with
  | zero => rfl
  | succ k ih => rw [crcShifts, crcShift_xor, ih]; rfl

theorem crc16_append (xs ys : List Byte) : crc16 (xs ++ ys) = ys.foldl crcByte (crc16 xs) := by
  simp [crc16]

end Sys2Proof.Machine
end

