-- ==== Sys2Proof/Tests/Slice0.lean ====
section
/-!
SUPPORT. Tests: the well-formedness checks on ill-formed commands, the worked figures of the spec, one step of each
command on a small tile, and for each statement with hypotheses a state and operands that meet them (`witness_…`).
-/

set_option Elab.async false
set_option maxRecDepth 20000

open Sys2Proof Sys2Proof.Machine

namespace Sys2Proof.Tests

/-! ### Small tiles -/

/-- The state after a command that answers a next state. -/
def after (c : Instr) (s : State) : State :=
  match exec c s with
  | .next t => t
  | .fault _ => s
  | .refused _ => s

/-- The settings of the tests' tile: station 3, one line of one cell at page line 2, page cell 5, alone on its page. -/
def settings1 : Settings :=
  { station := 3, firstLine := 2, lineCount := 1, firstCell := 5, cellCount := 1, tileCount := 1, railLimit := 3000,
    holdLimit := 20, statusCell := none, source := .store }

/-- The same with its one cell as the status cell. -/
def settingsStatus : Settings := { settings1 with statusCell := some (0, 0) }

/-- A tile of one cell, JOINED on a line that is up, with a full bank and nothing to do; its timers are at their
periods. -/
def tile : State :=
  { State.reset with
    start := { life := .joined, straps := 31, settings := some settings1, adjusted := false, joinTimer := none }
    link := { State.reset.link with lineUp := true }
    page := { State.reset.page with staging := [0], target := [0] }
    plan := { State.reset.plan with faults := List.replicate 8 .ok }
    shown := [0]
    bank := { charge := 4000, railTimer := some 10, demand := 0, lastAnnounced := 0, transfer := 0 }
    rail := { State.reset.rail with refreshTimer := some 500 }
    touch := { State.reset.touch with lines := [LineGuard.initial], driftTimer := some 2000 } }

/-- The tile in another life state. -/
def tileIn (life : Life) : State :=
  (tile.withStart { tile.start with life := life, joinTimer := if life = .listening then some 1500 else none }).withTouch
    { tile.touch with driftTimer := none }

/-- The tile at the end of SCAN. -/
def tileScanning : State := (tileIn .scan).withRail State.reset.rail

/-- The tile with page `serial` under assembly, `e` fragments taken. -/
def tileAssembling (serial : Half) (e : Nat) : State :=
  tile.withPage { tile.page with stagingState := .assembling serial e }

/-- The tile with T at a serial, in a page state with an outcome. -/
def tileTurned (serial : Half) (st : PageState) (o : PageOutcome) : State :=
  tile.withPage { tile.page with turned := serial, state := st, outcome := o }

/-- The tile with a transmit queue. -/
def tileQueue (q : List QFrame) : State := tile.withLink { tile.link with queue := q }

/-- A REPLY with a tag. -/
def reply (tag : Byte) : QFrame := .reply ⟨tag, 1, 4, 0, []⟩

/-- An attempt of the head frame with a body. -/
def attempt (phase : LinePhase) (body : Body) : OnLine :=
  { phase := phase, holdsHead := true, preReset := false, sender := 3, body := body }

/-- The body of a DRAW of this tile that carries a demand. -/
def drawOf (demand : Byte) : Body := .draw demand 2 1 5 1 0 0 0

/-- The tile with its head frame on the line. -/
def tileSending (q : List QFrame) (body : Body) : State :=
  tile.withLink { tile.link with queue := q, onLine := some (attempt .sending body) }

/-- The tile with an attempt on the line and a queue. -/
def tileOnLine (q : List QFrame) (o : OnLine) : State := tile.withLink { tile.link with queue := q, onLine := some o }

/-- A peer's entry. -/
def peer (station : Byte) (demand : Nat) (serial : Half) (o : PageOutcome) : PeerEntry :=
  { station := station, demand := demand, serial := serial, outcome := o, remaining := 1500 }

/-- A peer's entry at its deadline. -/
def expired (station : Byte) : PeerEntry := { peer station 0 0 .none with remaining := 0 }

/-- The tile with a peer view. -/
def tileView (view : List PeerEntry) : State := tile.withRail { tile.rail with view := view }

/-- Fifteen entries, of stations 10 to 24. -/
def fullView : List PeerEntry := (List.range 15).map (fun i => peer (BitVec.ofNat 8 (10 + i)) 0 0 .none)

/-- A row in a slot: one pin raised for 52 cu (R70: 40 + 12 × 2 / 2). -/
def slot0 (fired : Bool) : Slot :=
  { row := 0, moves := ⟨1, 0⟩, attempt := 1, level := .normal, cost := 52, fired := fired }

/-- The tile with its engine in a state and its slots holding rows. -/
def tilePipe (e : Engine) (load strike settle sense : Option Slot) : State :=
  (tile.withPipe { load := load, strike := strike, settle := settle, sense := sense, engine := e, stepTimer := some 6,
                   matrix := none }).withTouch { tile.touch with driftTimer := none }

/-- The tile with a charge in its bank. -/
def withCharge (c : Nat) (s : State) : State := s.withBank { s.bank with charge := c, demand := demandOf c }

/-- The tile with its line's guard. -/
def tileGuard (g : LineGuard) : State := tile.withTouch { tile.touch with lines := [g] }

/-- A line that is touched. -/
def touched : LineGuard := { guard := .touched, arrival := none, departure := none, presence := some 0, failed := false }

/-- A line that has been touched for 600 s. -/
def longTouched : LineGuard := { touched with presence := some 600000 }

/-- A line whose strip has failed under a hand. -/
def failedStrip : LineGuard := { touched with presence := none, failed := true }

/-! ### Ill-formed commands -/

theorem wf_refuses_sender_32 : (Instr.page 32 1 0).wf = false := by decide
theorem wf_refuses_page_serial_0 : (Instr.page 1 0 0).wf = false := by decide
theorem wf_refuses_page_mode_2 : (Instr.page 1 1 2).wf = false := by decide
theorem wf_refuses_content_without_cells : (Instr.content 1 1 0 0 0 []).wf = false := by decide
theorem wf_refuses_content_of_41_cells : (Instr.content 1 1 0 0 0 (List.replicate 41 0)).wf = false := by decide
theorem wf_refuses_content_serial_0 : (Instr.content 1 0 0 0 0 [0]).wf = false := by decide
theorem wf_refuses_content_seq_4096 : (Instr.content 1 1 4096 0 0 [0]).wf = false := by decide
theorem wf_refuses_content_line_32 : (Instr.content 1 1 0 32 0 [0]).wf = false := by decide
theorem wf_refuses_content_cell_64 : (Instr.content 1 1 0 0 64 [0]).wf = false := by decide
theorem wf_refuses_content_past_the_line : (Instr.content 1 1 0 0 63 [0, 0]).wf = false := by decide
theorem wf_refuses_turn_serial_0 : (Instr.turn 1 0 0).wf = false := by decide
theorem wf_refuses_turn_total_4097 : (Instr.turn 1 1 4097).wf = false := by decide
theorem wf_refuses_settled_outcome_0 : (Instr.settled 1 1 0 0).wf = false := by decide
theorem wf_refuses_settled_outcome_5 : (Instr.settled 1 1 5 0).wf = false := by decide
theorem wf_refuses_draw_demand_13 : (Instr.draw 1 13 0 1 0 1 0 0 0).wf = false := by decide
theorem wf_refuses_query_of_5_bytes : (Instr.digest 1 3 0 [0, 0, 0, 0, 0]).wf = false := by decide
theorem wf_refuses_reply_of_41_bytes : (Instr.reply 1 0 1 1 0 (List.replicate 41 0)).wf = false := by decide
theorem wf_refuses_reset_scope_2 : (Instr.resetDisregarded 1 3 2).wf = false := by decide
theorem wf_refuses_reset_target_32 : (Instr.resetPage 1 32).wf = false := by decide
theorem wf_refuses_reset_target_254 : (Instr.resetLink 1 254).wf = false := by decide
theorem wf_refuses_counters_as_summary : (Instr.statusSummary 1 3 0 [1]).wf = false := by decide
theorem wf_refuses_summary_as_counters : (Instr.statusCounters 1 3 0 [0]).wf = false := by decide
theorem wf_refuses_a_known_kind_as_unknown : (Instr.unknownQuery 1 3 0 7 []).wf = false := by decide
theorem wf_refuses_station_32 : (Instr.entryExpiry 32).wf = false := by decide
theorem wf_refuses_257_memory_bytes : (Instr.endOfConfig (List.replicate 257 0) 0).wf = false := by decide
theorem wf_refuses_a_good_frame_as_discarded :
    (Instr.discardedFrame ⟨false, wireBits (frameChars 1 (.reset 3 0))⟩).wf = false := by decide
theorem wf_refuses_the_tiles_own_frame_as_discarded : (Instr.discardedFrame ⟨true, []⟩).wf = false := by decide

/-! ### Figures the spec works out -/

/-- R18. -/
theorem test_crc_reference : crc16 [0x31, 0x32, 0x33, 0x34, 0x35, 0x36, 0x37, 0x38, 0x39] = 0x29B1 := by decide
/-- R18. -/
theorem test_crc_of_no_bytes : crc16 [] = 0xFFFF := by decide
/-- 2.4, the example of two tiles in one slot: kind 5 of station 9; bit times are counted from 1.  Data bit k of the
sender is driven at bit time 24 + k. -/
theorem test_wire_example :
    (let w := wireBits [5, 9]
     w[22]? = some false ∧ w[23]? = some true ∧ w[24]? = some false ∧ w[25]? = some false ∧ w[26]? = some true ∧
       w[31]? = some true ∧ w.length = 32) := by decide
/-- The same example: the stop bit of byte 1 reads low at bit time 32; and R15: the line is released before it. -/
theorem test_broken_characters :
    Heard.broken ⟨false, (wireBits [5, 9]).set 31 false⟩ = true ∧ Heard.broken ⟨false, (wireBits [5, 9]).take 31⟩ = true ∧
      Heard.broken ⟨false, wireBits [5, 9]⟩ = false := by decide
/-- 3.1, the table of serials. -/
theorem test_newer_table : newer 101 100 = true ∧ newer 5 65530 = true ∧ newer 99 100 = false ∧
    newer 32868 100 = false ∧ newer 7232 40000 = false ∧ newerThanTurned 1 0 = true := by decide
/-- 1.4, the table of tile rows and pin columns: dot 8 of cell 0, dot 5 and dot 7 of line 2, cell 7. -/
theorem test_pin_places :
    pinUp [0x80] 1 3 1 = true ∧ pinUp (List.replicate 27 0 ++ [0x10, 0, 0]) 10 9 15 = true ∧
      pinUp (List.replicate 27 0 ++ [0x40, 0, 0]) 10 11 14 = true := by decide
/-- 4.2, the table of levels. -/
theorem test_levels : levelAt .normal 2 = .firm ∧ levelAt .normal 3 = .hard ∧ levelAt .firm 2 = .hard ∧
    levelAt .firm 3 = .hard := by decide
/-- 4.2, the table of costs. -/
theorem test_costs :
    strikeCost ⟨0, 1⟩ .normal = 48 ∧ strikeCost ⟨1, 0⟩ .firm = 58 ∧ strikeCost ⟨1, 0⟩ .hard = 64 ∧
      strikeCost ⟨3, 4⟩ .normal = 72 ∧ strikeCost ⟨7, 24⟩ .hard = 144 ∧ strikeCost ⟨31, 0xE0⟩ .firm = 166 ∧
      strikeCost ⟨0, 0xFFFFF⟩ .normal = 200 ∧ strikeCost ⟨0xFFFFF, 0⟩ .hard = 520 := by decide
/-- 6.3, the table of demands. -/
theorem test_demands : demandOf 0 = 600 ∧ demandOf 3400 = 600 ∧ demandOf 3401 = 600 ∧ demandOf 3450 = 550 ∧
    demandOf 3451 = 550 ∧ demandOf 3876 = 150 ∧ demandOf 3999 = 50 ∧ demandOf 4000 = 0 := by decide
/-- 12.4: the allowances of tile X at 0, 1500, 1540 and 9000 ms. -/
theorem test_allowances :
    (let x : Settings := { settings1 with tileCount := 4, railLimit := 2000 }
     let v := [peer 5 600 0 .none, peer 7 150 0 .none]
     floorShare x = 234 ∧ computeAllowance x 550 (v ++ [peer 12 100 0 .none]) true = 550 ∧
       computeAllowance x 550 v true = 542 ∧ computeAllowance x 600 v true = 575 ∧
       computeAllowance x 600 v false = 234 ∧ computeAllowance x 600 (v ++ [peer 12 0 0 .none]) true = 600) := by
  decide
/-- 11.3: the settings memory of the example. -/
def exampleMemory : List Byte :=
  [0xA7, 2, 0, 28, 4, 0, 60, 6, 0, 4, 9, 0, 120, 0x0B, 0, 5, 7, 0x07, 0xD0, 8, 2, 9, 9, 0, 30, 0, 0, 0]
/-- 11.3: the settings it gives with straps that read 6. -/
theorem test_settings_example :
    settingsOf 6 exampleMemory =
        { station := 6, firstLine := 28, lineCount := 4, firstCell := 60, cellCount := 4, tileCount := 4,
          railLimit := 2000, holdLimit := 30, statusCell := none, source := .store } ∧
      settingsAdjusted exampleMemory = true := by decide
/-- R158, R160 and 9.1: the bytes of the patterns. -/
theorem test_pattern_bytes : Pattern.byte (.working false) = 0x24 ∧ Pattern.byte (.working true) = 0xE4 ∧
    Pattern.byte (.ready false) = 0x3F ∧ Pattern.byte (.ready true) = 0xFF := by decide
/-- 1.8: the second fragment of the example, clipped to local cells 8 and 9 of local line 2. -/
theorem test_fragment_clipped :
    (let c : Settings := { settings1 with firstLine := 6, lineCount := 6, firstCell := 30, cellCount := 10 }
     fragmentByte c 8 38 [1, 2, 3, 4] 27 9 = 9 ∧ fragmentByte c 8 38 [1, 2, 3, 4] 28 9 = 1 ∧
       fragmentByte c 8 38 [1, 2, 3, 4] 29 9 = 2 ∧ fragmentByte c 8 38 [1, 2, 3, 4] 30 9 = 9) := by decide

/-! ### One step of each command -/

theorem test_power_on : (after (.powerOn 6) tile).start.straps = 6 ∧ (after (.powerOn 6) tile).bank.demand = 600 := by
  decide
theorem test_reset_pin_asserted : after .linkUp (after .resetPinAsserted tile) = after .resetPinAsserted tile := by decide
theorem test_reset_pin_released : (after (.resetPinReleased 9) (after .resetPinAsserted tile)).resetHeld = false := by decide
/-- R141: line 1's strip is touched from the first reading on. -/
theorem test_end_of_config :
    (let t := after (.endOfConfig exampleMemory 2) State.reset
     t.start.life = .scan ∧ t.shown.length = 16 ∧ lineClosed t 0 = false ∧ lineClosed t 1 = true) := by decide
/-- R187: the two pins sensed up in tile row 1 are dots 2 and 5. -/
theorem test_scan_complete :
    (let t := after (.scanComplete ((Vector.replicate 24 0).set 1 3)) tileScanning
     t.shown = [0x12] ∧ t.page.target = [0x12] ∧ t.start.life = .listening ∧
       t.link.queue = [.announce .draw false] ∧ t.rail.applied = 0) := by decide
theorem test_join_listen_expiry : (after .joinListenTimerExpiry (tileIn .listening)).start.life = .joined := by decide
/-- R189: the expiry that was due when a LINK reset was taken first does not take place. -/
theorem test_join_listen_restarted :
    (after .joinListenTimerExpiry (after (.resetLink 1 3) (tileIn .listening))).start.life = .listening := by decide
/-- R20, step 2: a frame whose last check byte is wrong. -/
theorem test_discarded_crc :
    (after (.discardedFrame ⟨false, wireBits [8, 1, 2, 3, 0, 0, 0]⟩) tile).link.counters.crcErrors = 1 := by decide
/-- R20, step 4: a sender of 32 with the right check. -/
theorem test_discarded_sender :
    (after (.discardedFrame ⟨false, wireBits (frameChars 32 (.reset 3 0))⟩) tile).link.counters.malformed = 1 := by decide
/-- R42: with T at 1, serial 0x8000 is 32767 ahead. -/
theorem test_page_opened : (after (.page 1 0x8000 0) (tileTurned 1 .working .none)).page.stagingState =
    .assembling 0x8000 0 := by decide
/-- R41: serial 0x8001 is 32768 away. -/
theorem test_page_stale : (after (.page 1 0x8001 0) (tileTurned 1 .working .none)).link.counters.stale = 1 := by decide
theorem test_content_taken : (after (.content 1 7 2 2 4 [1, 2, 3]) (tileAssembling 7 2)).page.staging = [2] := by decide
theorem test_content_gap : (after (.content 1 7 3 2 4 [1, 2, 3]) (tileAssembling 7 2)).link.counters.gapDrops = 1 := by
  decide
/-- R50: two fragments of three. -/
theorem test_turn_lacking : (after (.turn 1 7 3) (tileAssembling 7 2)).page.record = ⟨7, .lacking, 2⟩ := by decide
/-- R49, R56: a page equal to what is shown settles at once. -/
theorem test_turn_settles : (after (.turn 1 7 2) (tileAssembling 7 2)).page.record = ⟨7, .done, 0⟩ := by decide
theorem test_settled : (after (.settled 9 4 1 0) (tileView [peer 9 100 3 .held])).rail.view = [peer 9 100 4 .done] := by
  decide
/-- R124: in a full view the entry with the earliest deadline makes room. -/
theorem test_draw_in_a_full_view :
    (after (.draw 9 12 0 1 0 1 0 0 0) (tileView fullView)).rail.view.map (·.station) =
      (List.range 14).map (fun i => BitVec.ofNat 8 (11 + i)) ++ [9] := by decide
theorem test_reply : after (.reply 1 0 1 1 0 [1]) tile = tile := by decide
/-- R171: JOINED, up, IDLE, NONE, …, charge 0x0FA0. -/
theorem test_status_summary : (after (.statusSummary 1 3 9 [0]) tile).link.queue = [.reply ⟨9, 1, 1, 0,
    [3, 1, 0, 0, 0, 0, 0, 0, 0, 0, 0, 0, 0, 0, 0x0F, 0xA0, 0, 0, 0, 0, 0, 0, 0, 0, 0, 0, 0, 0]⟩] := by decide
theorem test_status_counters :
    (after (.statusCounters 1 3 9 [1]) (tile.withLink { tile.link with
      counters := { Counters.zero with crcErrors := 258, duplicates := 65535 } })).link.queue =
      [.reply ⟨9, 1, 1, 0, [1, 2, 0, 0, 0, 0, 0, 0, 0, 0, 0, 0, 0, 0, 0, 0, 0, 0, 0, 0, 0, 0, 0xFF, 0xFF]⟩] := by decide
/-- R173, R18: one cell, the byte 0: 0xE1F0. -/
theorem test_digest : (after (.digest 1 3 9 [1]) tile).link.queue = [.reply ⟨9, 1, 2, 0, [0xE1, 0xF0]⟩] := by decide
/-- R174: pin 7 of eight is row 3, column 1; it is STUCK_DOWN. -/
theorem test_faults :
    (after (.faults 1 3 9 [0]) (tile.withPlan { tile.plan with
      faults := List.replicate 7 .ok ++ [.stuckDown] })).link.queue = [.reply ⟨9, 1, 3, 0, [0, 1, 0, 3, 1, 3]⟩] := by decide
/-- R59: TARGET is blank, and the one pin shown up has a job to go down. -/
theorem test_flatten :
    (let t := after (.flatten 1 3 9 []) ((tile.withPage { tile.page with target := [1] }).withShown [1])
     t.page.target = [0] ∧ jobAt t 0 = some ⟨⟨0, 1⟩, 1, .normal⟩ ∧ t.page.state = .working ∧
       t.pipe.engine = .running) := by decide
/-- R147: the strip that failed under a hand closes its line again, and its presence timer starts at 0. -/
theorem test_clear_faults :
    (after (.clearFaults 1 3 9 []) (tileGuard failedStrip)).touch.lines = [touched] := by decide
/-- R175. -/
theorem test_identify : (after (.identify 1 3 9 []) tile).link.queue =
    [.reply ⟨9, 1, 6, 0, [6, 0x10, 1, 3, 2, 1, 5, 1, 1, 0x0B, 0xB8, 20, 0xFF, 0xFF, 0]⟩] := by decide
theorem test_clear_counters :
    (after (.clearCounters 1 3 9 []) (tile.withLink { tile.link with
      counters := { Counters.zero with clashes := 4 }, clash := true })).link.counters = Counters.zero := by decide
theorem test_unknown_query : (after (.unknownQuery 1 3 9 8 []) tile).link.queue = [.reply ⟨9, 3, 8, 0, []⟩] := by decide
theorem test_query_with_a_bad_argument : (after (.digest 1 3 9 [2]) tile).link.queue = [.reply ⟨9, 2, 2, 1, []⟩] := by
  decide
theorem test_reset_page : (after (.resetPage 1 255) (tileTurned 5 .settled .done)).page.turned = 0 := by decide
theorem test_reset_link :
    (after (.resetLink 1 3) (tileQueue [reply 1, reply 2])).link.queue = [.announce .draw false] := by decide
/-- R24: no frame waits, so no slot is drawn. -/
theorem test_quiet_gap : (after .quietGap tile).link.quiet = true ∧ (after .quietGap tile).link.wait = none := by decide
theorem test_slot_begins :
    (let s := tileQueue [.announce .draw false]
     (after .slotBegins (s.withLink { s.link with wait := some 5, quiet := true })).link.onLine =
       some (attempt .sending (drawOf 0))) := by decide
theorem test_deferral :
    (let s := tileQueue [reply 1]
     (after .deferral (s.withLink { s.link with wait := some 5, attempt := 3, window := 32 })).link =
       { s.link with wait := none, attempt := 3, window := 32 }) := by decide
/-- R28: the second attempt draws from twice the window. -/
theorem test_collision : (after .collision (tileSending [reply 1] (drawOf 0))).link.window = 16 := by decide
/-- R27: the jam, and no further frame bits. -/
theorem test_jam_on_the_line :
    lineBits (after .collision (tileSending [reply 1] (drawOf 0))) = List.replicate 32 false := by decide
theorem test_jam_end :
    (let s := tileQueue [reply 1]
     (after .jamEnd (s.withLink { s.link with onLine := some (attempt .jamming (drawOf 0)) })).link = s.link) := by decide
/-- R116: the DRAW carried 600, own demand is 0, so another DRAW is queued. -/
theorem test_attempt_completes :
    (let t := after .attemptCompletes (tileSending [.announce .draw false] (drawOf 12))
     t.bank.lastAnnounced = 600 ∧ t.link.queue = [.announce .draw false]) := by decide
theorem test_link_up : (after .linkUp (after .linkDown tile)).link.lineUp = true := by decide
/-- R34: the attempt cut off before it collided counts as a collision. -/
theorem test_link_down : (after .linkDown (tileSending [reply 1] (drawOf 0))).link.counters.collisions = 1 := by decide
/-- R97: the row pays 52 cu as it enters STRIKE. -/
theorem test_step_fires :
    (let t := after (.stepTimerExpiry 0) (tilePipe .running (some (slot0 false)) none none none)
     t.pipe.strike = some (slot0 true) ∧ t.bank.charge = 3948) := by decide
/-- R76, R79: a raised pin that stayed down gets a second, FIRM strike. -/
theorem test_step_senses :
    (let s := tilePipe .running none none none (some (slot0 true))
     jobAt (after (.stepTimerExpiry 0) (s.withPage { s.page with target := [1] })) 0 = some ⟨⟨1, 0⟩, 2, .firm⟩) := by decide
/-- R110: ten cu of room under an applied allowance of 100. -/
theorem test_rail_period :
    (after .railPeriod (withCharge 3990 (tile.withRail { tile.rail with applied := 100 }))).bank.charge = 4000 := by decide
theorem test_draw_refresh : (after .drawRefreshTimerExpiry (tileQueue [reply 1])).link.queue =
    [reply 1, .announce .draw false] := by decide
theorem test_settle_expiry :
    (after .settleTimerExpiry (tile.withRail { tile.rail with
      rise := some ⟨575, 600, .settling 20⟩ })).rail.applied = 575 := by decide
/-- R132: a recomputation taken first has started the timer of another target afresh. -/
theorem test_settle_restarted :
    (after .settleTimerExpiry (tile.withRail { tile.rail with rise := some ⟨575, 600, .settling 0⟩ })).rail.applied = 0 := by
  decide
theorem test_entry_expiry : (after (.entryExpiry 9) (tileView [expired 9])).rail.view = [] := by decide
/-- R123: a DRAW taken first moves the deadline on. -/
theorem test_entry_renewed :
    (after (.entryExpiry 9) (after (.draw 9 0 0 1 0 1 0 0 0) (tileView [expired 9]))).rail.view = [peer 9 0 0 .none] := by
  decide
theorem test_presence_begins : lineClosed (after (.presenceBegins 0) tile) 0 = true := by decide
theorem test_presence_ends :
    (after (.presenceEnds 0) (tileGuard touched)).touch.lines.map (·.guard) = [.leaving] := by decide
theorem test_arrival_filter :
    (after (.arrivalFilterExpiry 0) (tileGuard { touched with guard := .arriving, arrival := some 30 })).touch.lines =
      [touched] := by decide
theorem test_departure_filter :
    (after (.departureFilterExpiry 0) (tileGuard ⟨.leaving, none, some 200, none, false⟩)).touch.lines =
      [LineGuard.initial] := by decide
theorem test_presence_timer : (after (.presenceTimerExpiry 0) (tileGuard longTouched)).touch.lines = [failedStrip] := by
  decide
/-- R58: a hand on the one line, with a job for its row 0. -/
def tileHeld : State :=
  let s := writeJob 0 ⟨1, 0⟩ 1 (tileGuard touched)
  (s.withPage { s.page with state := .working, turned := 5 }).withTouch
    { s.touch with holdPhase := .running, holdTime := 20000 }
theorem test_hold_limit : (after .holdLimitExpiry tileHeld).page.record = ⟨5, .held, 1⟩ := by decide
/-- R153: row 3, column 1 is dot 8. -/
theorem test_drift_scan :
    (after (.driftTimerExpiry 0 0 0 2) (tile.withTouch { tile.touch with driftTimer := some 2000 })).shown = [0x80] := by
  decide
theorem test_query_disregarded : after (.queryDisregarded 1 4 9 4 []) tile = tile := by decide
theorem test_reset_disregarded : after (.resetDisregarded 1 4 0) tile = tile := by decide

/-- R159, R160: the five patterns, with P = 1 and no peer, and with two peers, one of them on another page. -/
theorem test_patterns :
    patternOf tile = .blank ∧ patternOf (tileTurned 5 .working .none) = .working false ∧
      patternOf (tileTurned 5 .settled .done) = .ready false ∧
      patternOf (tileTurned 5 .settled .doneFaults) = .ready true ∧
      patternOf ((tileTurned 5 .settled .done).withRail
        { tile.rail with view := [peer 8 0 5 .done, peer 9 0 4 .doneFaults] }) = .working true := by decide

/-! ### States and operands that meet the statements' hypotheses -/

theorem sizes_tile : SizesOk tile := by unfold SizesOk; decide

theorem settings_ok : SettingsOk settings1 := by simp [SettingsOk, settings1]

/-- A JOINED tile with the tests' settings. -/
theorem start_of {s : State} (h : s.start = tile.start) : StartOk s := by
  refine ⟨by rw [h]; decide, by rw [h]; decide, fun c hc => ?_⟩
  rw [h] at hc
  cases hc
  exact settings_ok

/-- A tile whose engine is IDLE. -/
theorem slots_of {s : State} (h : s.pipe = tile.pipe) : SlotsOk s := by
  simp [SlotsOk, allUnfired, allFired, openIfUnfired, slotRows, slotsEmpty, h, tile, State.reset]

theorem slots_tile : SlotsOk tile := slots_of rfl

theorem snapshot_slot0 {s : State} (h : s.start = tile.start) (r : Nat) (hr : r < 4) (b : Bool) :
    SnapshotOk s { slot0 b with row := r } := by
  refine ⟨?_, (by decide : 1#20 &&& 0#20 = 0#20), rfl, Nat.le_refl 1, (by decide : 1 ≤ 3),
    (by decide : 52 = strikeCost ⟨1, 0⟩ .normal)⟩
  show r < rowCount s
  simp [rowCount, lineCount, h, tile, settings1]
  exact hr

theorem hears_tile : Hears tile 1 := by unfold Hears; decide

theorem hears_peer : Hears tile 9 := by unfold Hears; decide

theorem takes_tile : TakesQuery tile 1 3 := ⟨hears_tile, by decide, by decide⟩

theorem witness_StepRunsTheFrontCommand : (tile.withPending [.linkUp, .linkDown]).pending = .linkUp :: [.linkDown] := rfl

theorem witness_IdleStepPassesOneMillisecond :
    tile.pending = [] ∧ Running tile ∧ (tile.withHeld true).resetHeld = true ∧ (tile.withHeld true).pending = [] ∧
      (tile.withRail { tile.rail with rise := some ⟨5, 0, .settling 20⟩ }).rail.rise = some ⟨5, 0, .settling 20⟩ ∧
      tile.touch.lines[0]? = some LineGuard.initial := by unfold Running; decide

theorem witness_PowerOnGivesEveryBlockItsPowerOnValue :
    (Instr.powerOn 31 = .powerOn 31 ∨ Instr.powerOn 31 = .resetPinReleased 31) ∧
      (Instr.resetPinReleased 0 = .powerOn 0 ∨ Instr.resetPinReleased 0 = .resetPinReleased 0) := by decide

theorem witness_ResetPinStopsThePart :
    (∀ straps, Instr.linkUp ≠ .powerOn straps ∧ Instr.linkUp ≠ .resetPinReleased straps) ∧
      (after .resetPinAsserted tile).pending = [] := ⟨by simp, by decide⟩

theorem witness_EndOfConfigPutsTheSettingsInForce :
    Running State.reset ∧ State.reset.start.life = .config ∧ 0 < (settingsOf 31 []).lineCount := by
  unfold Running; decide

/-- The memory without its signature, and a memory with no bytes. -/
theorem witness_SettingsInForceLieInTheirRanges :
    List.head? [0xA6#8] ≠ some 0xA7 ∧ List.head? ([] : List Byte) ≠ some 0xA7 ∧
      (settingsOf 6 [0xA7, 8, 3, 5, 0]).statusCell = some (3, 5) := by decide

/-- No record, 31 records with an end marker, 32 without. -/
theorem witness_StoredRecordsAreReadBack :
    (∀ n ∈ [0, 31, 32], (List.replicate n ((1#8, 5#16))).length ≤ 32 ∧
      ∀ r ∈ List.replicate n (1#8, 5#16), r.1 ≠ 0) ∧ List.head? [0#8] = some 0 := by
  refine ⟨fun n hn => ⟨?_, fun r hr => ?_⟩, rfl⟩
  · simp at hn ⊢
    omega
  · rw [(List.mem_replicate.mp hr).2]
    decide

theorem witness_ScanCompleteEntersListening :
    Running tileScanning ∧ ScanReady tileScanning ∧ tileScanning.start.settings = some settings1 ∧
      StartOk tileScanning ∧ SizesOk tileScanning := by
  refine ⟨rfl, by unfold ScanReady NoWorkYet; decide, rfl, ⟨by decide, by decide, fun c hc => ?_⟩,
    by unfold SizesOk; decide⟩
  cases hc
  exact settings_ok

/-- A tile with a frame to send on a line that has been quiet, and the tile with none; 1500 ms and 1499 ms. -/
theorem witness_JoinListenExpiryJoinsTheTile :
    (let s := (tileIn .listening).withLink { tile.link with queue := [reply 1], quiet := true }
     Running s ∧ Timer.due 1500 s.start.joinTimer = true ∧ s.start.settings = some settings1 ∧ s.link.wait = none ∧
      s.link.lineUp = true ∧ s.link.onLine = none ∧ s.link.queue ≠ [] ∧ s.link.quiet = true) ∧
      (tileIn .listening).link.queue = [] ∧ Timer.due 1500 (some 1499) = false := by unfold Running; decide

/-- Target 3 is the tile's station; 31 is the last station, 255 all of them. -/
theorem witness_ResetPageMakesThePageReset :
    Hears tile 1 ∧ station tile = some 3 ∧ BitVec.toNat 3#8 ≤ 31 ∧ (station tile = some 255 ∨ 255#8 = 255) ∧
      StartOk tile ∧ SlotsOk tile := ⟨hears_tile, by decide, by decide, by decide, start_of rfl, slots_tile⟩

/-- An idle line, an attempt whose frame has left the queue, now empty, a head that is no DRAW on the line, a DRAW
being sent, and a DRAW that jams. -/
theorem witness_ResetLinkStartsListeningAfresh :
    (∀ o ∈ [none, some { attempt .jamming (drawOf 0) with holdsHead := false }, some (attempt .sending (drawOf 0)),
        some (attempt .jamming (drawOf 0))], ∀ q ∈ [[], [reply 1], [.announce .draw false]],
      (let s := tile.withLink { tile.link with queue := q, onLine := o }
       Hears s 1 ∧ (station s = some 3 ∨ 3#8 = 255) ∧ s.start.settings = some settings1 ∧ StartOk s ∧ SlotsOk s ∧
         s.link.onLine = o ∧ s.link.queue = q)) ∧ BitVec.toNat 3#8 ≤ 31 ∧
      QFrame.isAnnounce .draw (reply 1) = false ∧ QFrame.isAnnounce .draw (.announce .draw false) = true ∧
      (attempt .sending (drawOf 0)).holdsHead = true ∧ (attempt .sending (drawOf 0)).phase = .sending ∧
      (attempt .jamming (drawOf 0)).phase = .jamming := by
  refine ⟨fun o _ q _ => ⟨hears_tile, .inl rfl, rfl, start_of rfl, slots_of rfl, rfl, rfl⟩, ?_⟩
  decide

theorem witness_FramesForOthersChangeNothing :
    Hears tile 1 ∧ Hears (tileIn .listening) 1 ∧ (List.replicate 40 (0#8)).length ≤ 40 ∧
      (List.replicate 4 (0#8)).length ≤ 4 ∧ station tile ≠ some 4 ∧ (tileIn .listening).start.life = .listening ∧
      BitVec.toNat 31#8 ≤ 31 ∧ BitVec.toNat 1#8 ≤ 1 := by unfold Hears; decide

theorem witness_FramesBeforeListeningAreDropped :
    Running (tileIn .scan) ∧ (tileIn .scan).start.life = .scan ∧ State.reset.start.life = .config ∧
      frameOf (.page 1 1 0) ≠ none ∧ ∃ h, Instr.discardedFrame ⟨false, [false]⟩ = .discardedFrame h ∧ h.own = false := by
  refine ⟨rfl, rfl, rfl, by decide, ⟨false, [false]⟩, rfl, rfl⟩

/-- The tile's own frame; a lead cut short, a character cut short and a stop bit that reads low; and one frame for
each check of R20, at its boundary: four characters, a wrong check, a length of 49, one character too many, sender 32,
kinds 0 and 9, a body too short, a mode of 2, and a good frame. -/
theorem witness_SixChecksDecideAFrame :
    Running tile ∧ onTheLink tile = true ∧ (⟨true, []⟩ : Heard).own = true ∧
      (∀ h ∈ [⟨false, List.replicate 11 false⟩, ⟨false, (wireBits [8]).take 21⟩, ⟨false, (wireBits [8]).set 21 false⟩],
        Heard.own h = false ∧ Heard.broken h = true) ∧
      Heard.broken ⟨false, wireBits [8, 1, 2, 3]⟩ = false ∧ Heard.chars ⟨false, wireBits [8, 1, 2, 3]⟩ = [8, 1, 2, 3] ∧
      judgeFrame false [8, 1, 2, 3] = .crcError ∧ judgeFrame false [8, 1, 0, 0, 0] = .crcError ∧
      judgeFields ([1, 1, 49] ++ List.replicate 51 0) = .malformed ∧ judgeFields [8, 1, 2, 3, 0, 0, 0, 0] = .malformed ∧
      judgeFields [8, 32, 2, 3, 0, 0, 0] = .malformed ∧ judgeFields [0, 31, 0, 0, 0] = .unknownKind ∧
      judgeFields [9, 31, 0, 0, 0] = .unknownKind ∧ judgeFields [8, 31, 1, 3, 0, 0] = .malformed ∧
      judgeFields [1, 31, 3, 0, 1, 2, 0, 0] = .malformed ∧
      judgeFields [1, 31, 3, 0, 1, 1, 0, 0] = .good 31 (.page 1 1) := by unfold Running; decide

theorem witness_WireFormActsAsItsRow :
    frameOf (.content 31 0xFFFF 4095 31 24 (List.replicate 40 7)) =
        some (31, .content 0xFFFF 4095 31 24 (List.replicate 40 7)) ∧
      (Instr.content 31 0xFFFF 4095 31 24 (List.replicate 40 7)).wf = true := by decide

theorem witness_ClashesAndMalformedRowsAreCounted :
    frameOf (.page 3 1 0) = some (3, .page 1 0) ∧ Running tile ∧ onTheLink tile = true ∧ BitVec.toNat 3#8 ≤ 31 ∧
      station tile = some 3 ∧ frameOf (.page 32 1 0) = some (32, .page 1 0) ∧ 31 < BitVec.toNat 32#8 ∧
      frameOf (.page 1 1 2) = some (1, .page 1 2) ∧ ¬ malformedBody 1 (bodyBytes (.page 1 0)) ∧
      malformedBody 1 (bodyBytes (.page 1 2)) := by
  refine ⟨rfl, rfl, rfl, by decide, rfl, rfl, by decide, rfl, ?_, .inr (.inr (by decide))⟩
  simp only [malformedBody]
  decide

/-- R17 at the limits of CONTENT (the last cell of a page line, its forty-first byte) and of RESET (31, 32 and 255). -/
theorem witness_malformed_bodies :
    ¬ malformedBody 2 (bodyBytes (.content 1 4095 31 24 (List.replicate 40 0))) ∧
      malformedBody 2 (bodyBytes (.content 1 4096 31 24 (List.replicate 40 0))) ∧
      malformedBody 2 (bodyBytes (.content 1 0 31 25 (List.replicate 40 0))) ∧
      malformedBody 2 (bodyBytes (.content 1 0 31 0 (List.replicate 41 0))) ∧
      ¬ malformedBody 8 [31, 1] ∧ malformedBody 8 [32, 1] ∧ ¬ malformedBody 8 [255, 0] := by
  simp only [malformedBody]
  decide

/-- Distances 0, 1, 32767 and 32768 from T = 1, and T = 0; the page under assembly the same and another. -/
theorem witness_PageFrameOpensRestartsOrIsStale :
    Hears tile 1 ∧ (1#16 : Half) ≠ 0 ∧ BitVec.toNat 1#8 ≤ 1 ∧ (1#16 - 1#16).toNat = 0 ∧ (2#16 - 1#16).toNat = 1 ∧
      (0x8000#16 - 1#16).toNat = 32767 ∧ (0x8001#16 - 1#16).toNat = 32768 ∧ tile.page.turned = 0 ∧
      (tileAssembling 7 2).page.stagingState = .assembling 7 2 := by unfold Hears; decide

/-- A page under assembly at e = 2 and fragments 1 and 3; no page under assembly; another page. -/
theorem witness_ContentOutOfSequenceIsCountedAndIgnored :
    Hears (tileAssembling 7 2) 1 ∧ bodyOk (.content 7 3 31 63 [0]) = true ∧
      (tileAssembling 7 2).page.stagingState = .assembling 7 2 ∧ 2 < BitVec.toNat 3#16 ∧ BitVec.toNat 1#16 < 2 ∧
      tile.page.stagingState = .empty ∧ (7#16 : Half) ≠ 8 := by unfold Hears; decide

/-- The last fragment of a page of 4096. -/
theorem witness_TakenFragmentWritesItsOverlap :
    Hears (tileAssembling 7 4095) 1 ∧ bodyOk (.content 7 4095 2 5 [9]) = true ∧
      (tileAssembling 7 4095).start.settings = some settings1 ∧
      (tileAssembling 7 4095).page.stagingState = .assembling 7 (BitVec.toNat 4095#16) ∧ SizesOk (tileAssembling 7 4095) := by
  unfold Hears SizesOk; decide

/-- As many fragments as the total, and 4096 of 4096. -/
theorem witness_TurnTakenStartsThePage :
    (∀ e ∈ [2, 4096], Hears (tileAssembling 7 e) 1 ∧ (tileAssembling 7 e).page.stagingState = .assembling 7 e ∧
      StartOk (tileAssembling 7 e) ∧ SlotsOk (tileAssembling 7 e)) ∧ (7#16 : Half) ≠ 0 ∧ BitVec.toNat 2#16 ≤ 2 ∧
      BitVec.toNat 4096#16 ≤ 4096 :=
  ⟨fun _ _ => ⟨hears_tile, rfl, start_of rfl, slots_of rfl⟩, by decide, by decide, by decide⟩

/-- R50 with one fragment too few; R51 in each page state; R52 at distances 1 and 32767; R53 at distance 32768. -/
theorem witness_TurnNotTakenIsAnsweredOrStale :
    Hears (tileAssembling 7 2) 1 ∧ PageStateOk (tileAssembling 7 2) ∧ 2 < BitVec.toNat 3#16 ∧
      Hears (tileTurned 1 .settled .done) 1 ∧ PageStateOk (tileTurned 1 .settled .done) ∧
      (tileTurned 1 .working .none).page.state = .working ∧ (tileTurned 1 .working .held).page.outcome = .held ∧
      (2#16 - 1#16).toNat = 1 ∧ (0x8000#16 - 1#16).toNat = 32767 ∧ (0x8001#16 - 1#16).toNat = 32768 := by
  unfold Hears PageStateOk; decide

/-- A tile with a status cell, on which a page has been turned and the pattern has yet to be worked out. -/
def tileStatus : State :=
  (tileTurned 1 .working .none).withStart { tile.start with settings := some settingsStatus }

theorem start_status : StartOk tileStatus := by
  refine ⟨by decide, by decide, fun c hc => ?_⟩
  cases hc
  simp [SettingsOk, settingsStatus, settings1]

/-- The overlay absent and present, T at 0 and not, a page that is ready, and one that is not. -/
theorem witness_patterns :
    (let s := tileTurned 5 .settled .done
     (false = true ↔ s.page.outcome = .doneFaults ∨ (∃ e ∈ s.rail.view, e.outcome = .doneFaults) ∨
       (∃ g ∈ s.touch.lines, g.failed = true) ∨ s.link.lineUp = false) ∧ s.page.turned ≠ 0 ∧
     s.start.settings = some settings1 ∧ s.page.state = .settled ∧ settings1.tileCount - 1 ≤ s.rail.view.length ∧
     ∀ e ∈ s.rail.view, e.serial = s.page.turned ∧ (e.outcome = .done ∨ e.outcome = .doneFaults)) ∧
    (tileTurned 5 .settled .doneFaults).page.outcome = .doneFaults ∧ tile.page.turned = 0 ∧
    (tileTurned 5 .working .none).page.state ≠ .settled := by decide

/-- Outcomes 1 and 4, of a station in the view and of one that is not; a tile with a status cell whose pattern
changes. -/
theorem witness_SettledFrameUpdatesItsEntry :
    (let s := tileView [peer 9 0 0 .none]
     Hears s 9 ∧ StartOk s ∧ SlotsOk s ∧ inView s.rail.view 9 = true) ∧
      Hears tile 9 ∧ StartOk tile ∧ SlotsOk tile ∧ inView tile.rail.view 9 = false ∧ 1 ≤ BitVec.toNat 1#8 ∧
      BitVec.toNat 4#8 ≤ 4 ∧ patternOf tileStatus ≠ tileStatus.pattern ∧ statusRows tileStatus ≠ [] ∧
      StartOk tileStatus ∧ SlotsOk tileStatus :=
  ⟨⟨hears_peer, start_of rfl, slots_of rfl, by decide⟩, hears_peer, start_of rfl, slots_of rfl, by decide, by decide,
    by decide, by decide, by decide, start_status, slots_of rfl⟩

/-- A view of 14, a full one of 15, and one with the station in it; demand 12. -/
theorem witness_DrawFrameRenewsTheView :
    (∀ v ∈ [fullView.take 14, fullView, [peer 9 0 0 .none]],
      Hears (tileView v) 9 ∧ (tileView v).start.settings = some settings1 ∧ StartOk (tileView v) ∧ SlotsOk (tileView v)) ∧
      BitVec.toNat 12#8 ≤ 12 ∧ fullView.length = 15 ∧ inView fullView 9 = false ∧ inView fullView 10 = true :=
  ⟨fun _ _ => ⟨hears_peer, rfl, start_of rfl, slots_of rfl⟩, by decide, by decide, by decide, by decide⟩

/-- For every statement of a query: the tile takes the query. -/
theorem witness_queries_are_taken :
    TakesQuery tile 1 3 ∧ tile.start.settings = some settings1 ∧ StartOk tile ∧ SlotsOk tile :=
  ⟨takes_tile, rfl, start_of rfl, slots_tile⟩

theorem witness_DigestChecksAnImage :
    TakesQuery tile 1 3 ∧ ((0#8 : Byte) = 0 ∧ tile.shown = tile.shown) ∧ ((1#8 : Byte) = 1 ∧ tile.page.target = [0]) ∧
      0 < tile.shown.length := ⟨takes_tile, by decide, by decide, by decide⟩

/-- A row in STRIKE that has fired, a FAILED strip under a hand, and a WORKING page on an IDLE engine. -/
theorem witness_ClearFaultsStartsAfresh :
    (let s := tilePipe .running none (some (slot0 true)) none none
     TakesQuery s 1 3 ∧ StartOk s ∧ SlotsOk s ∧ PatternOk s ∧ s.pipe.engine ≠ .idle ∧ 0 < rowCount s) ∧
    (let s := ((tileGuard failedStrip).withPage { tile.page with state := .working, turned := 5 }).withPattern
      (.working true)
     TakesQuery s 1 3 ∧ StartOk s ∧ SlotsOk s ∧ PatternOk s ∧ s.pipe.engine = .idle ∧ s.page.state = .working ∧
       s.touch.lines.any (·.failed) = true) := by
  refine ⟨⟨takes_tile, start_of rfl, ?_, ⟨rfl, nofun⟩, by decide, by decide⟩, takes_tile, start_of rfl, slots_of rfl,
    ⟨by decide, nofun⟩, rfl, rfl, rfl⟩
  refine ⟨nofun, nofun, nofun, nofun, nofun, nofun, by decide, nofun, fun x h => ?_, fun x h => ?_⟩
  · rintro hf
    cases h
    cases hf
  · rcases h with h | h | h | h <;> cases h
    exact snapshot_slot0 rfl 0 (by decide) true

theorem witness_ClearCountersZeroesTheCounters :
    TakesQuery (tileQueue (List.replicate 6 (reply 1))) 1 3 ∧
      6 ≤ (tileQueue (List.replicate 6 (reply 1))).link.queue.length :=
  ⟨⟨by unfold Hears; decide, rfl, rfl⟩, by decide⟩

/-- Kinds 0, 8, 255; a bad value of kinds 1 and 2; lengths 0 and 2 of kind 3; an argument of kinds 4 and 7. -/
theorem witness_UnknownAndBadQueriesChangeOnlyTheQueue :
    TakesQuery tile 1 3 ∧ frameOf (.unknownQuery 1 3 9 0 []) = some (1, .query 3 9 0 []) ∧
      frameOf (.unknownQuery 1 3 9 8 []) = some (1, .query 3 9 8 []) ∧ 8 ≤ BitVec.toNat 255#8 ∧
      frameOf (.statusSummary 1 3 9 []) = some (1, .query 3 9 1 []) ∧
      frameOf (.digest 1 3 9 [2]) = some (1, .query 3 9 2 [2]) ∧ ([2#8] ≠ [0] ∧ [2#8] ≠ [1]) ∧
      frameOf (.faults 1 3 9 []) = some (1, .query 3 9 3 []) ∧
      frameOf (.flatten 1 3 9 [0]) = some (1, .query 3 9 4 [0]) ∧
      frameOf (.clearCounters 1 3 9 [0, 0, 0, 0]) = some (1, .query 3 9 7 [0, 0, 0, 0]) ∧
      (List.replicate 4 (0#8)).length ≤ 4 := ⟨takes_tile, by decide⟩

/-- A frame that waits for a slot it does not have yet; nothing to send; a frame on the line. -/
theorem witness_QuietGapDrawsASlotAndDeferralKeepsTheBackoff :
    (let s := tileQueue [reply 1]
     Running s ∧ s.link.onLine = none ∧ s.start.life = .joined ∧ s.link.lineUp = true ∧ s.link.queue ≠ [] ∧
       s.link.wait = none ∧ 0 < s.link.window) ∧ tile.link.queue = [] ∧
      (tileSending [reply 1] (drawOf 0)).link.onLine.isSome = true := by unfold Running; decide

/-- A REPLY, a DRAW and a SETTLED in a wait; no wait. -/
theorem witness_SlotStartsTheHeadFrame :
    (∀ f ∈ [reply 1, .announce .draw false, .announce .settled true],
      (let s := (tileQueue [f]).withLink { (tileQueue [f]).link with wait := some 7 }
       Running s ∧ s.start.settings = some settings1 ∧ s.link.queue = f :: [] ∧ s.start.life = .joined ∧
         s.link.lineUp = true ∧ s.link.onLine = none ∧ s.link.wait.isSome = true)) ∧ tile.link.wait = none := by
  unfold Running; decide

/-- Attempts 1, 9 and 10 of a DRAW with and without a renewal mark, before and after a LINK reset; a REPLY and a
SETTLED; an abandoned DRAW with the demand announced and not announced; a jam and an idle line. -/
theorem witness_CollisionRetriesOrAbandons :
    (∀ n : Nat, ∀ b p : Bool, ∀ f ∈ [(.announce .draw b, drawOf 0), (.announce .settled b, .settled 5 1 0),
        (reply 1, .reply 1 1 4 0 [])],
      (let o := { attempt .sending f.2 with preReset := p }
       let s := (tileOnLine [f.1] o).withLink { (tileOnLine [f.1] o).link with attempt := n }
       Running s ∧ AttemptOk s ∧ s.link.onLine = some o ∧ o.phase = .sending ∧ s.link.queue = f.1 :: [] ∧
         s.link.attempt = n)) ∧
      Body.kindCode (drawOf 0) = 5 ∧ tile.bank.demand = tile.bank.lastAnnounced ∧
      (withCharge 0 tile).bank.demand ≠ tile.bank.lastAnnounced ∧ AttemptOk tile ∧ tile.link.onLine = none := by
  refine ⟨fun n b p f hf => ⟨rfl, ?_, rfl, rfl, rfl, rfl⟩, by decide, by decide, by decide, nofun, rfl⟩
  intro o ho
  cases ho
  refine ⟨fun _ => rfl, nofun, fun _ => rfl, fun g q hq _ => ?_⟩
  cases hq
  simp only [List.mem_cons, List.not_mem_nil, or_false] at hf
  rcases hf with rfl | rfl | rfl <;> rfl

theorem witness_JamEndReleasesTheLine :
    Running (tileSending [reply 1] (drawOf 0)) ∧ (attempt .jamming (drawOf 0)).phase = .jamming ∧
      (attempt .sending (drawOf 0)).phase = .sending ∧ tile.link.onLine = none ∧
      ({ attempt .jamming (drawOf 0) with preReset := true } : OnLine).preReset = true := by unfold Running; decide

/-- A DRAW whose demand is own demand and one whose demand is not; a REPLY; a held rise that the DRAW reaches. -/
theorem witness_CompletionAnnouncesTheDemand :
    (∀ b ∈ [drawOf 0, drawOf 12, .reply 1 1 4 0 []],
      (let s := tileSending [.announce .draw false] b
       Running s ∧ s.link.onLine = some (attempt .sending b) ∧ s.link.queue = .announce .draw false :: [] ∧
         s.link.wait = none)) ∧ (attempt .sending (drawOf 0)).phase = .sending ∧
      (tile.withRail { tile.rail with rise := some ⟨575, 600, .held⟩ }).rail.rise = some ⟨575, 600, .held⟩ ∧
      (600 : Nat) ≤ BitVec.toNat 12#8 * 50 := by unfold Running; decide

/-- A part in CONFIG, with the line up or down. -/
theorem config_line (up : Bool) :
    (let s := State.reset.withLink { State.reset.link with lineUp := up }
     Running s ∧ StartOk s ∧ SlotsOk s ∧ PatternOk s ∧ s.start.settings = none ∧ s.link.onLine = none ∧
       s.link.lineUp = up) := by
  exact ⟨rfl, ⟨iff_of_true rfl rfl, iff_of_false nofun nofun, nofun⟩, slots_of rfl, ⟨rfl, fun _ => rfl⟩, rfl, rfl, rfl⟩

theorem witness_LinkUpLiftsTheCap :
    (∀ up q, (let s := tile.withLink { tile.link with lineUp := up, queue := q }
      Running s ∧ s.start.settings = some settings1 ∧ StartOk s ∧ SlotsOk s ∧ s.link.lineUp = up ∧ s.link.queue = q)) ∧
      onTheLink tile = true ∧ onTheLink (tileIn .scan) = false ∧ tile.page.state ≠ .working ∧
      (let s := State.reset
       Running s ∧ StartOk s ∧ SlotsOk s ∧ PatternOk s ∧ s.start.settings = none ∧ s.link.lineUp = false) :=
  ⟨fun _ _ => ⟨rfl, rfl, start_of rfl, slots_of rfl, rfl, rfl⟩, rfl, rfl, by decide,
    have h := config_line false
    ⟨h.1, h.2.1, h.2.2.1, h.2.2.2.1, rfl, rfl⟩⟩

/-- An idle line, an attempt being sent, one that jams, and a line that is down; and the line down in CONFIG. -/
theorem witness_LinkDownCapsTheAllowance :
    (∀ o up, (let s := tile.withLink { tile.link with lineUp := up, queue := [reply 1], onLine := o }
      Running s ∧ s.start.settings = some settings1 ∧ StartOk s ∧ SlotsOk s ∧ s.link.lineUp = up ∧ s.link.onLine = o)) ∧
      onTheLink tile = true ∧ tile.start.life = .joined ∧ onTheLink (tileIn .scan) = false ∧
      (let s := State.reset.withLink { State.reset.link with lineUp := true }
       Running s ∧ StartOk s ∧ SlotsOk s ∧ PatternOk s ∧ s.start.settings = none ∧ s.link.onLine = none ∧
         s.link.lineUp = true) :=
  ⟨fun _ _ => ⟨rfl, rfl, start_of rfl, slots_of rfl, rfl, rfl⟩, rfl, rfl, rfl, config_line true⟩

/-- A row that enters STRIKE and pays its whole charge; a stalled row with a row behind it; a fence that holds; an
engine with a row in SENSE alone; a timer at 5 ms. -/
theorem witness_StepMovesEachRowOneStage :
    (∀ s ∈ [withCharge 52 (tilePipe .running (some (slot0 false)) none none none),
        withCharge 51 (tilePipe .running (some { slot0 false with row := 1 }) (some (slot0 false)) none none),
        withCharge 0 (tilePipe .fenced none (some (slot0 true)) none none),
        withCharge 0 (tilePipe .running none none none (some (slot0 true)))],
      Running s ∧ s.start.settings = some settings1 ∧ Timer.due 6 s.pipe.stepTimer = true ∧ StartOk s ∧ EngineOk s ∧
        SlotsOk s ∧ BankOk s) ∧ Timer.due 6 (some 5) = false := by
  refine ⟨fun s hs => ?_, by decide⟩
  simp only [List.mem_cons, List.not_mem_nil, or_false] at hs
  rcases hs with rfl | rfl | rfl | rfl
  all_goals
    refine ⟨rfl, rfl, rfl, start_of rfl, by unfold EngineOk; decide, ?_, by unfold BankOk; decide⟩
    refine ⟨nofun, nofun, ?_, ?_, ?_, ?_, by decide, ?_, ?_, fun x h => ?_⟩
  all_goals first
    | (rcases h with h | h | h | h <;> cases h <;> exact snapshot_slot0 rfl _ (by decide) _)
    | (rintro x h; cases h; first | rfl | (intro _; decide))
    | (intro x h; cases h)
    | (intro h; refine ⟨rfl, ?_⟩; intro x h; cases h; rfl)
    | (intro h; cases h)

theorem witness_StepSensesTheSenseRow :
    (∀ x, (let s := tilePipe .running none none none x
      Running s ∧ Timer.due 6 s.pipe.stepTimer = true ∧ StartOk s ∧ EngineOk s ∧ SizesOk s ∧ s.pipe.sense = x)) :=
  fun _ => ⟨rfl, rfl, start_of rfl, ⟨⟨nofun, fun _ => rfl⟩, ⟨nofun, fun h => nomatch h.2⟩⟩, sizes_tile, rfl⟩

/-- A full bank, whose gain is 0, and an empty one with an unfired row in STRIKE; a timer at 9 ms. -/
theorem witness_RailPeriodRefillsTheBank :
    Running tile ∧ tile.start.settings = some settings1 ∧ Timer.due 10 tile.bank.railTimer = true ∧ BankOk tile ∧
    (let s := withCharge 0 (tilePipe .running none (some (slot0 false)) none none)
     Running s ∧ s.start.settings = some settings1 ∧ Timer.due 10 s.bank.railTimer = true ∧ BankOk s) ∧
    Timer.due 10 (some 9) = false := by unfold Running BankOk; decide

/-- An empty queue, five frames, six with a DRAW, six without, with a REPLY or the SETTLED at the head; a timer at 499
ms. -/
theorem witness_RefreshQueuesADraw :
    (∀ q ∈ [[], List.replicate 5 (reply 1), .announce .draw false :: List.replicate 5 (reply 1),
      .announce .settled false :: List.replicate 5 (reply 1), List.replicate 6 (reply 1)],
      Running (tileQueue q) ∧ Timer.due 500 (tileQueue q).rail.refreshTimer = true ∧ QueueOk (tileQueue q)) ∧
      Timer.due 500 (some 499) = false := by
  unfold Running QueueOk; decide

theorem witness_SettleExpiryRaisesTheAllowance :
    Running tile ∧ tile.rail.rise = none ∧
      (tile.withRail { tile.rail with rise := some ⟨5, 0, .settling 20⟩ }).rail.rise = some ⟨5, 0, .settling 20⟩ ∧
      (⟨5, 0, .settling 19⟩ : Rise).phase = .settling 19 ∧ (⟨5, 0, .held⟩ : Rise).phase = .held := by
  unfold Running; decide

/-- An entry at its deadline, one renewed, and a station that is not in the view. -/
theorem witness_EntryExpiryForgetsTheStation :
    (let s := tileView [expired 9, peer 8 0 0 .none]
     Running s ∧ s.start.settings = some settings1 ∧ onTheLink s = true ∧ StartOk s ∧ SlotsOk s ∧
       (∃ e ∈ s.rail.view, e.station = 9 ∧ e.remaining = 0) ∧ (∀ e ∈ s.rail.view, e.station = 8 → e.remaining ≠ 0) ∧
       ∀ e ∈ s.rail.view, e.station = 7 → e.remaining ≠ 0) :=
  ⟨rfl, rfl, rfl, start_of rfl, slots_of rfl, by decide, by decide, by decide⟩

/-- Each guard state, on strip 0; strip 5 lies outside this tile's rectangle. -/
theorem witness_GuardStatesFollowTheirTable :
    (∀ g ∈ [LineGuard.initial, touched, failedStrip, ⟨.leaving, none, some 200, none, false⟩,
        ⟨.arriving, some 30, none, some 30, false⟩],
      Running (tileGuard g) ∧ (tileGuard g).touch.lines[(0 : Fin 6).val]? = some g) ∧
    Running tile ∧ tile.touch.lines[(1 : Fin 6).val]? = none := by unfold Running; decide

/-- A line that closes and one that opens, with an IDLE engine; the opening comes with a departure filter at 200 ms; and
a line that closes in SCAN. -/
theorem witness_LinesThatCloseOrOpenAreHandedOn :
    (Running tile ∧ onTheLink tile = true ∧ SlotsOk tile ∧ lineClosed tile 0 = false ∧
      lineClosed (after (.presenceBegins 0) tile) 0 = true ∧ tile.pipe.engine = .idle) ∧
    (let s := tileGuard ⟨.leaving, none, some 200, none, false⟩
     Running s ∧ onTheLink s = true ∧ SlotsOk s ∧ lineClosed s 0 = true ∧
       lineClosed (after (.departureFilterExpiry 0) s) 0 = false) ∧
    (let s := tileIn .scan
     Running s ∧ onTheLink s = false ∧ SlotsOk s ∧ lineClosed s 0 = false ∧
       lineClosed (after (.presenceBegins 0) s) 0 = true) :=
  ⟨⟨rfl, rfl, slots_tile, by decide, by decide, rfl⟩, ⟨rfl, rfl, slots_of rfl, by decide, by decide⟩, rfl, rfl,
    slots_of rfl, by decide, by decide⟩

theorem witness_PresenceExpiryFailsTheStrip :
    (let s := tileGuard longTouched
     Running s ∧ s.touch.lines[(0 : Fin 6).val]? = some longTouched ∧ Timer.due 600000 longTouched.presence = true ∧
       StartOk s ∧ SlotsOk s ∧ longTouched.guard ≠ .clear ∧ longTouched.failed = false ∧ s.pipe.engine = .idle ∧
       onTheLink s = true ∧ lineClosed s 0 = true) ∧ Timer.due 600000 (some 599999) = false ∧
      Timer.due 600000 LineGuard.initial.presence = false :=
  ⟨⟨rfl, rfl, by decide, start_of rfl, slots_of rfl, by decide, rfl, rfl, rfl, by decide⟩, by decide, rfl⟩

theorem witness_HoldExpiryReportsTheHeldLines :
    (let s := tileHeld.withPattern (patternOf tileHeld)
     Running s ∧ s.touch.holdPhase = .running ∧ holdLimitMs s ≤ s.touch.holdTime ∧ s.page.state = .working ∧
       s.page.heldMark = false ∧ PatternOk s ∧ PageStateOk s) ∧
      tile.touch.holdTime < holdLimitMs tile ∧ tile.touch.holdPhase ≠ .running ∧ tile.page.state ≠ .working := by
  unfold Running PatternOk PageStateOk; decide

/-- The line open and chosen at once, and every line closed; a timer that is stopped or at 1999 ms. -/
theorem witness_DriftScanSensesTheNextOpenLine :
    Running tile ∧ StartOk tile ∧ SlotsOk tile ∧ SizesOk tile ∧ Timer.due 2000 tile.touch.driftTimer = true ∧
      0 < lineCount tile ∧ 0 = (tile.touch.rotation + 0) % lineCount tile ∧ lineClosed tile 0 = false ∧
      Timer.due 2000 none = false ∧ Timer.due 2000 (some 1999) = false ∧ StartOk (tileGuard touched) ∧
      SlotsOk (tileGuard touched) ∧ SizesOk (tileGuard touched) ∧
      (∀ l < lineCount (tileGuard touched), lineClosed (tileGuard touched) l = true) :=
  ⟨rfl, start_of rfl, slots_tile, sizes_tile, by decide, by decide, by decide, by decide, rfl, by decide, start_of rfl,
    slots_of rfl, by unfold SizesOk; decide, by decide⟩

/-- Attempts 1 and 3, on the last row of the tile. -/
theorem witness_RecomputeJudgesTheStrike :
    StartOk tile ∧ 3 < rowCount tile ∧ SizesOk tile ∧ rowCount tile ≤ 24 ∧ 1 ≤ 1 ∧ 3 ≤ 3 :=
  ⟨start_of rfl, by decide, sizes_tile, by decide, by decide, by decide⟩

/-- A set of all twenty pins, and the smallest job. -/
theorem witness_LevelsAndCostsOfAStrike :
    colCount tile ≤ 20 ∧ (0xFFFFF#20 &&& 0#20 = 0#20 ∧ Moves.isEmpty ⟨0xFFFFF, 0⟩ = false) ∧
      (0#20 &&& 1#20 = 0#20 ∧ Moves.isEmpty ⟨0, 1⟩ = false) := by decide

/-- The bounds of P, L and own demand; and a rail too small for the floors of a full view. -/
theorem witness_SharesNeverExceedTheRail :
    (∀ p ∈ [1, 16], ∀ l ∈ [600, 24000], 1 ≤ p ∧ 600 ≤ l) ∧ 600 ≤ 600 ∧
      (let v := (List.range 15).map (fun i => peer (BitVec.ofNat 8 i) 600 0 .none)
       let c : Settings := { settings1 with railLimit := 600 }
       effectiveLimit 600 ≤ floorSum (floorShare c) (demandSet 600 1 v)) := by decide

theorem witness_OnlyTheseCommandsChangeWhatOutlivesAPage :
    exec (.stepTimerExpiry 0) (tilePipe .running (some (slot0 false)) none none none) =
        .next (after (.stepTimerExpiry 0) (tilePipe .running (some (slot0 false)) none none none)) ∧
      (after (.stepTimerExpiry 0) (tilePipe .running (some (slot0 false)) none none none)).bank.charge ≠
        (tilePipe .running (some (slot0 false)) none none none).bank.charge ∧
      (after (.driftTimerExpiry 1 0 0 0) tile).shown ≠ tile.shown ∧
      (after (.endOfConfig [] 0) State.reset).start.settings ≠ none ∧
      (after (.clearFaults 1 3 9 []) (tile.withPlan { tile.plan with
        faults := List.replicate 8 .weak })).plan.faults ≠ List.replicate 8 .weak := by
  refine ⟨rfl, by decide, by decide, by decide, by decide⟩

/-- The tile with a REPLY on the line and a full bank meets the invariants of the four step statements. -/
theorem witness_EveryStepKeepsTheLinkController :
    (let s := tileSending [reply 1] (.reply 1 1 4 0 [])
     QueueOk s ∧ BackoffOk s ∧ AttemptOk s ∧ CountersOk s ∧ step s = .next (idle s)) := by
  refine ⟨by unfold QueueOk; decide, ?_, ?_, by unfold CountersOk; decide, rfl⟩
  · simp [BackoffOk, tileSending, tile, State.reset]
  · intro o ho
    cases ho
    exact ⟨fun _ => rfl, nofun, nofun, fun f q hq _ => by cases hq; rfl⟩

theorem witness_EveryStepKeepsTheBankAndTheRailShare :
    StartOk tile ∧ BankOk tile ∧ ViewOk tile ∧ AllowanceOk tile ∧ step tile = .next (idle tile) := by
  refine ⟨start_of rfl, by unfold BankOk; decide, by unfold ViewOk; decide, ?_, rfl⟩
  refine ⟨by decide, by decide, nofun, nofun, fun _ c hc => ?_, nofun, nofun⟩
  cases hc
  decide

theorem plan_tile : PlanOk tile := by
  refine ⟨fun r j h => ?_, fun h => nomatch h⟩
  simp [jobAt, tile, State.reset, Vector.getElem?_replicate] at h
  split at h <;> simp at h

theorem witness_EveryStepKeepsThePageAndThePlan :
    StartOk tile ∧ SizesOk tile ∧ StagingOk tile ∧ PageStateOk tile ∧ PlanOk tile ∧ PatternOk tile ∧ WorkOk tile ∧
      BeforeListeningOk tile ∧ SlotsOk tile ∧ step tile = .next (idle tile) := by
  refine ⟨start_of rfl, sizes_tile, ?_, by unfold PageStateOk; decide, plan_tile, by unfold PatternOk; decide, nofun,
    nofun, slots_tile, rfl⟩
  simp [StagingOk, tile, State.reset]

theorem witness_EveryStepKeepsThePipelineAndTheTouchGuard :
    StartOk tile ∧ EngineOk tile ∧ SlotsOk tile ∧ TouchOk tile ∧ HoldOk tile ∧ PlanOk tile ∧
      step tile = .next (idle tile) :=
  ⟨start_of rfl, by unfold EngineOk; decide, slots_tile, by unfold TouchOk GuardOk; decide, by unfold HoldOk; decide,
    plan_tile, rfl⟩

end Sys2Proof.Tests
end

section
/-!
The page frames that assemble and turn a page (R41 to R53): first the rules of the page assembler's operations, one
equation per case, then the obligations on PAGE frames, on CONTENT frames out of sequence and on TURN frames that are
not taken.
-/

namespace Sys2Proof.Machine

section Rules
variable {s : State}

/-! ### Serials, the fill of STAGING and the page under assembly -/

/-- R38 with T = 0, in the distance of the serial from T. -/
theorem newerThanTurned_iff (a t : Half) :
    newerThanTurned a t = true ↔ t = 0 ∨ (1 ≤ (a - t).toNat ∧ (a - t).toNat ≤ 32767) := by
  simp [newerThanTurned, newer]

theorem newerThanTurned_eq_false_iff (a t : Half) :
    newerThanTurned a t = false ↔ t ≠ 0 ∧ ((a - t).toNat = 0 ∨ 32768 ≤ (a - t).toNat) := by
  rw [← Bool.not_eq_true, newerThanTurned_iff, not_or]
  exact and_congr_right fun _ => by omega

/-- R40: a FULL page starts from as many blank cells as STAGING has. -/
theorem stagingFill_eq (mode : Byte) :
    stagingFill s mode = if mode = 0 then List.replicate s.page.staging.length 0 else s.page.target := by
  unfold stagingFill
  rw [List.map_const']
  rfl

theorem serial_ne_of_not_assembling {serial cur : Half} {e : Nat}
    (h : ∀ e, s.page.stagingState ≠ .assembling serial e) (hst : s.page.stagingState = .assembling cur e) :
    cur ≠ serial := by
  rintro rfl
  exact h e hst

/-! ### A heard frame that is only counted -/

theorem link_count_lineBusy (k : Counter) :
    (count k (lineBusy s)).link = { busyLink s with counters := s.link.counters.inc k } := rfl

theorem changes_count_lineBusy (k : Counter) : Changes [.link] s (count k (lineBusy s)) :=
  (changes_lineBusy s).trans (changes_count k _)

/-! ### PAGE -/

theorem takePage_stale {serial : Half} {mode : Byte} (h : newerThanTurned serial s.page.turned = false) :
    takePage serial mode s = count .stale s := by
  unfold takePage
  rw [if_pos h]

section Opens
variable {serial : Half} {mode : Byte} (hnew : newerThanTurned serial s.page.turned = true)
include hnew

theorem takePage_of_empty (h : s.page.stagingState = .empty) : takePage serial mode s = openPage serial mode s := by
  simp [takePage, hnew, h]

theorem takePage_of_restart {e : Nat} (h : s.page.stagingState = .assembling serial e) :
    takePage serial mode s = openPage serial mode s := by
  simp [takePage, hnew, h]

theorem takePage_of_superseding {cur : Half} {e : Nat} (h : s.page.stagingState = .assembling cur e)
    (hc : cur ≠ serial) : takePage serial mode s = count .superseded (openPage serial mode s) := by
  simp [takePage, hnew, h, hc]

end Opens

theorem openPage_page (serial : Half) (mode : Byte) :
    (openPage serial mode s).page = { s.page with
      staging := if mode = 0 then List.replicate s.page.staging.length 0 else s.page.target
      stagingState := .assembling serial 0 } := by
  rw [← stagingFill_eq]
  rfl

/-! ### CONTENT -/

section Content
variable {serial seq : Half} {line first : Byte} {cells : List Byte}

theorem takeContent_orphan (h : ∀ e, s.page.stagingState ≠ .assembling serial e) :
    takeContent serial seq line first cells s = count .orphans s := by
  unfold takeContent
  cases hst : s.page.stagingState with
  | empty => rfl
  | assembling cur e => exact if_pos (serial_ne_of_not_assembling h hst)

theorem takeContent_gap {e : Nat} (h : s.page.stagingState = .assembling serial e) (hlt : e < seq.toNat) :
    takeContent serial seq line first cells s = count .gapDrops s := by
  simp [takeContent, h, hlt, hlt.ne']

theorem takeContent_duplicate {e : Nat} (h : s.page.stagingState = .assembling serial e) (hlt : seq.toNat < e) :
    takeContent serial seq line first cells s = count .duplicates s := by
  simp [takeContent, h, hlt.ne, hlt.le]

end Content

/-! ### TURN -/

section Turn
variable {serial total : Half}

theorem takeTurn_elsewhere (h : ∀ e, s.page.stagingState ≠ .assembling serial e) :
    takeTurn serial total s = turnElsewhere serial s := by
  unfold takeTurn
  cases hst : s.page.stagingState with
  | empty => rfl
  | assembling cur e => exact if_pos (serial_ne_of_not_assembling h hst)

theorem takeTurn_lacking {e : Nat} (h : s.page.stagingState = .assembling serial e) (hlt : e < total.toNat) :
    takeTurn serial total s = announce serial .lacking e s := by
  simp [takeTurn, h, hlt]

theorem turnElsewhere_duplicate (h : serial = s.page.turned) : turnElsewhere serial s = duplicateTurn s := by
  unfold turnElsewhere
  rw [if_pos h]

theorem turnElsewhere_unopened (h : serial ≠ s.page.turned) (hnew : newerThanTurned serial s.page.turned = true) :
    turnElsewhere serial s = announce serial .lacking 0 s := by
  unfold turnElsewhere
  rw [if_neg h, if_pos hnew]

theorem turnElsewhere_stale (h : serial ≠ s.page.turned) (hnew : newerThanTurned serial s.page.turned = false) :
    turnElsewhere serial s = count .stale s := by
  unfold turnElsewhere
  rw [if_neg h, if_neg (by simp [hnew])]

theorem duplicateTurn_settled (h : s.page.state = .settled) :
    duplicateTurn s = announce s.page.turned s.page.outcome s.page.detail s := by
  simp [duplicateTurn, h]

theorem duplicateTurn_held (h : s.page.state = .working) (ho : s.page.outcome = .held) :
    duplicateTurn s = announce s.page.turned .held s.page.detail s := by
  simp [duplicateTurn, h, ho]

theorem duplicateTurn_working (h : s.page.state = .working) (ho : s.page.outcome ≠ .held) : duplicateTurn s = s := by
  simp [duplicateTurn, h, ho]

end Turn

/-- R55 on the busy line: a heard frame answered by an announcement writes the record and queues a SETTLED, which draws
no slot as the line is not quiet (R24). -/
theorem announce_lineBusy (serial : Half) (outcome : PageOutcome) (detail : Nat) :
    Changes [.link, .page] s (announce serial outcome detail (lineBusy s)) ∧
      (announce serial outcome detail (lineBusy s)).page = { s.page with record := ⟨serial, outcome, detail⟩ } ∧
      (announce serial outcome detail (lineBusy s)).link = (enqueueAnnounce .settled (lineBusy s)).link ∧
      Queued .settled (announce serial outcome detail (lineBusy s)) := by
  have changed := (changes_lineBusy s).comp (changes_announce serial outcome detail _) (ds := [.page, .link, .draws])
  have sameDraws : (announce serial outcome detail (lineBusy s)).draws = s.draws := draws_enqueueAnnounce _ _ rfl
  refine ⟨fun b hb => ?_, ?_, enqueueAnnounce_link_congr _ rfl rfl rfl, queued_enqueueAnnounce _ _⟩
  · by_cases hd : b = .draws
    · subst hd
      exact sameDraws
    · exact changed b (by simp_all)
  · exact (changes_enqueueAnnounce _ _).page

end Rules

/-! ### The obligations -/

/-- Settles O18: R41 by the serial's distance from T, then R42 and R43 by the staging state. -/
theorem pageFrameOpensRestartsOrIsStale : Obligations.PageFrameOpensRestartsOrIsStale := by
  unfold Obligations.PageFrameOpensRestartsOrIsStale
  intro sender serial mode s hears hserial hmode
  refine ⟨takePage serial mode (lineBusy s),
    exec_delivered (b := .page serial mode) rfl hears (by simpa [bodyOk, hmode] using hserial),
    (changes_lineBusy s).comp (changes_takePage serial mode _), ?_⟩
  intro opened distance
  cases hnew : newerThanTurned serial s.page.turned with
  | false =>
    rw [if_pos ((newerThanTurned_eq_false_iff _ _).mp hnew), takePage_stale (s := lineBusy s) hnew]
    exact ⟨rfl, rfl⟩
  | true =>
    have notStale := mt (newerThanTurned_eq_false_iff serial s.page.turned).mpr (by simp [hnew])
    have hopened : (openPage serial mode (lineBusy s)).page = opened := openPage_page serial mode
    rw [if_neg notStale]
    cases hst : s.page.stagingState with
    | empty =>
      rw [takePage_of_empty (s := lineBusy s) hnew hst]
      exact ⟨hopened, rfl⟩
    | assembling cur e =>
      by_cases hc : cur = serial
      · subst hc
        rw [takePage_of_restart (s := lineBusy s) hnew hst]
        refine ⟨hopened, ?_⟩
        simp only [if_true]
        rfl
      · rw [takePage_of_superseding (s := lineBusy s) hnew hst hc]
        refine ⟨hopened, ?_⟩
        simp only [if_neg hc]
        rfl

/-- Settles O19: each of the three is a count on the busy line and nothing more. -/
theorem contentOutOfSequenceIsCountedAndIgnored : Obligations.ContentOutOfSequenceIsCountedAndIgnored := by
  unfold Obligations.ContentOutOfSequenceIsCountedAndIgnored
  intro sender serial seq line first cells s hears hbody
  have counted (k : Counter) (h : takeContent serial seq line first cells (lineBusy s) = count k (lineBusy s)) :
      ∃ t, exec (.content sender serial seq line first cells) s = .next t ∧ Changes [.link] s t ∧
        t.link = { busyLink s with counters := s.link.counters.inc k } := by
    refine ⟨count k (lineBusy s), ?_, changes_count_lineBusy k, link_count_lineBusy k⟩
    rw [exec_delivered (b := .content serial seq line first cells) rfl hears hbody, ← h]
    rfl
  refine ⟨fun orphan => counted .orphans (takeContent_orphan orphan), fun e hst => ⟨fun gap => ?_, fun dup => ?_⟩⟩
  · exact counted .gapDrops (takeContent_gap hst gap)
  · exact counted .duplicates (takeContent_duplicate hst dup)

/-- Settles O22: R48's cases in order, each by its equation and the rule of an announcement or of a count. -/
theorem turnNotTakenIsAnsweredOrStale : Obligations.TurnNotTakenIsAnsweredOrStale := by
  unfold Obligations.TurnNotTakenIsAnsweredOrStale
  intro sender serial total s hears hserial htotal ⟨idleUnturned, _⟩
  refine ⟨takeTurn serial total (lineBusy s),
    exec_delivered (b := .turn serial total) rfl hears (by simpa [bodyOk, htotal] using hserial), ?_⟩
  intro announced elsewhere
  have announced_of {outcome : PageOutcome} {detail : Nat}
      (h : takeTurn serial total (lineBusy s) = announce serial outcome detail (lineBusy s)) :
      announced outcome detail := by
    simp only [announced, h]
    exact announce_lineBusy serial outcome detail
  have answered_elsewhere (notOpen : ∀ e, s.page.stagingState ≠ .assembling serial e) : elsewhere := by
    have taken : takeTurn serial total (lineBusy s) = turnElsewhere serial (lineBusy s) := takeTurn_elsewhere notOpen
    simp only [elsewhere]
    by_cases hdup : serial = s.page.turned
    · rw [turnElsewhere_duplicate (s := lineBusy s) hdup] at taken
      rw [if_pos hdup]
      cases hstate : s.page.state with
      | idle => exact hserial (hdup.trans (idleUnturned hstate))
      | settled => exact announced_of (by rw [taken, duplicateTurn_settled (s := lineBusy s) hstate, hdup]; rfl)
      | working =>
        by_cases ho : s.page.outcome = .held
        · simp only [if_pos ho]
          exact announced_of (by rw [taken, duplicateTurn_held (s := lineBusy s) hstate ho, hdup]; rfl)
        · simp only [if_neg ho]
          rw [taken, duplicateTurn_working (s := lineBusy s) hstate ho]
          exact ⟨changes_lineBusy s, rfl⟩
    · rw [if_neg hdup]
      cases hnew : newerThanTurned serial s.page.turned with
      | true =>
        rw [if_pos ((newerThanTurned_iff _ _).mp hnew)]
        exact announced_of (taken.trans (turnElsewhere_unopened hdup hnew))
      | false =>
        rw [if_neg (mt (newerThanTurned_iff _ _).mpr (by simp [hnew])), taken,
          turnElsewhere_stale (s := lineBusy s) hdup hnew]
        exact ⟨changes_count_lineBusy _, link_count_lineBusy _⟩
  cases hst : s.page.stagingState with
  | empty => exact answered_elsewhere (by simp [hst])
  | assembling cur e =>
    by_cases hc : cur = serial
    · simp only [ne_eq, hc, not_true_eq_false, if_false]
      intro hlacking
      exact announced_of (takeTurn_lacking (s := lineBusy s) (hc ▸ hst) hlacking)
    · simp only [ne_eq, hc, not_false_eq_true, if_true]
      exact answered_elsewhere (by simp [hst, hc])

end Sys2Proof.Machine
end

section
/-!
The status pattern worked out afresh (R159 to R162) and what it sets off: the refresh of the status rows, the notices of
R66, and the settle that these may bring (R55 to R57).  First what the notices and a refresh read and leave, then
`PatternWorkedOut` for `recomputePattern`, then the obligation on SETTLED frames.
-/

namespace Sys2Proof.Machine

section Pattern
variable {s t u v : State}

/-! ### The base pattern and the overlay -/

/-- R159, condition 2. -/
theorem pageReady_iff : pageReady s = true ↔ ∃ c, s.start.settings = some c ∧ s.page.state = .settled ∧
    c.tileCount - 1 ≤ s.rail.view.length ∧
    ∀ e ∈ s.rail.view, e.serial = s.page.turned ∧ (e.outcome = .done ∨ e.outcome = .doneFaults) := by
  unfold pageReady
  cases s.start.settings with
  | none => simp
  | some c => simp [and_assoc]

/-- R160. -/
theorem attention_iff : attention s = true ↔ s.page.outcome = .doneFaults ∨
    (∃ e ∈ s.rail.view, e.outcome = .doneFaults) ∨ (∃ g ∈ s.touch.lines, g.failed = true) ∨
    s.link.lineUp = false := by
  simp [attention, or_assoc]

theorem patternOf_blank (h : s.page.turned = 0) : patternOf s = .blank := if_pos h

theorem patternOf_ready (h : s.page.turned ≠ 0) (hr : pageReady s = true) : patternOf s = .ready (attention s) := by
  rw [patternOf, if_neg h, if_pos hr]

theorem patternOf_working (h : s.page.turned ≠ 0) (hr : ¬ pageReady s = true) :
    patternOf s = .working (attention s) := by
  rw [patternOf, if_neg h, if_neg hr]

/-! ### What the operations read -/

theorem jobAt_congr (h : t.plan = s.plan) (r : Nat) : jobAt t r = jobAt s r := by rw [jobAt, jobAt, h]

theorem lineClosed_congr (h : t.touch.lines = s.touch.lines) (l : Nat) : lineClosed t l = lineClosed s l := by
  rw [lineClosed, lineClosed, h]

theorem statusRows_congr (h : t.start = s.start) : statusRows t = statusRows s := by
  simp only [statusRows, statusCell, h]

theorem onTheLink_congr (h : t.start = s.start) : onTheLink t = onTheLink s := by rw [onTheLink, onTheLink, h]

theorem holdCondition_congr (h1 : t.start = s.start) (h2 : t.plan = s.plan) (h3 : t.touch.lines = s.touch.lines) :
    holdCondition t = holdCondition s := by
  have held : lineHeld t = lineHeld s := funext fun l => by
    simp only [lineHeld, lineClosed_congr h3, jobAt_congr h2]
  rw [holdCondition, holdCondition, lineCount, lineCount, h1, held]

theorem stuckOffCount_congr (h1 : t.start = s.start) (h2 : t.page.target = s.page.target) (h3 : t.shown = s.shown)
    (h4 : t.pattern = s.pattern) (h5 : t.plan.faults = s.plan.faults) : stuckOffCount t = stuckOffCount s := by
  simp only [stuckOffCount, allRows, rowCount, lineCount, stuckOffTarget, stuckPins, faultAt, shownRow, targetRow,
    targetEff, statusCell, cellCount, colCount, h1, h2, h3, h4, h5]

theorem refreshedJob_congr {s' t' : State} {r : Nat} (hjob : jobAt s' r = jobAt s r) (hdiff : diff t' r = diff t r)
    (hbase : ∀ m, baseLevel t' r m = baseLevel t r m) : refreshedJob s' t' r = refreshedJob s t r := by
  simp only [refreshedJob, hjob, hdiff, hbase]

/-- R56, R65. -/
theorem planEmpty_iff : planEmpty s = true ↔ ∀ r, jobAt s r = none := by
  unfold planEmpty jobAt
  rw [List.all_eq_true]
  constructor
  · intro h r
    cases hr : s.plan.jobs[r]? with
    | none => rfl
    | some j =>
      have hmem : j ∈ s.plan.jobs.toList := by simpa using Vector.mem_of_getElem? hr
      simpa using h j hmem
  · intro h j hj
    obtain ⟨r, hlt, rfl⟩ := Vector.mem_iff_getElem.mp (by simpa using hj)
    simpa [Vector.getElem?_eq_getElem hlt] using h r

/-! ### A refresh -/

theorem refreshedJob_eq_none_iff {r : Nat} : refreshedJob s t r = none ↔ (diff t r).isEmpty = true := by
  unfold refreshedJob
  split <;> simp [*]

/-- R71, R73: where no job stood, a refresh gives what a rebuild gives. -/
theorem refreshedJob_of_no_job {r : Nat} (h : jobAt s r = none) : refreshedJob s t r = freshJob t r := by
  simp [refreshedJob, freshJob, h, levelAt]

theorem jobAt_refreshRow_eq (r r' : Nat) (hr : r < 24) :
    jobAt (refreshRow s r) r' = if r = r' then refreshedJob s s r else jobAt s r' := by
  rw [jobAt_refreshRow s r r' hr]
  rfl

/-- R74: each row of a group is refreshed from the job that the event found. -/
theorem jobAt_refreshRows (rows : List Nat) (hnodup : rows.Nodup) (hlt : ∀ x ∈ rows, x < 24) (r : Nat) :
    jobAt (refreshRows rows s) r = if r ∈ rows then refreshedJob s s r else jobAt s r := by
  unfold refreshRows
  induction rows generalizing s with
  | nil => rfl
  | cons x rows ih =>
    obtain ⟨hx, hnodup⟩ := List.nodup_cons.mp hnodup
    obtain ⟨hx24, hlt⟩ := List.forall_mem_cons.mp hlt
    have c := changes_refreshRow s x
    have hf := refreshRow_faults s x
    rw [List.foldl_cons, ih hnodup hlt, jobAt_refreshRow_eq x r hx24]
    by_cases hxr : x = r
    · subst hxr
      simp [hx]
    · have later : refreshedJob (refreshRow s x) (refreshRow s x) r = refreshedJob s s r :=
        refreshedJob_congr (by rw [jobAt_refreshRow_eq x r hx24, if_neg hxr])
          (diff_congr c.start (by rw [c.page]) c.shown c.pattern hf r) (baseLevel_congr c.start hf r)
      simp [later, hxr, Ne.symm hxr]

theorem statusRows_nodup : (statusRows s).Nodup := by
  unfold statusRows
  split <;> simp

/-- R3, R11: the rows of the status cell are tile rows. -/
theorem statusRows_lt (h : StartOk s) : ∀ r ∈ statusRows s, r < 24 := by
  obtain ⟨_, _, inRange⟩ := h
  intro r hr
  unfold statusRows statusCell at hr
  cases hc : s.start.settings with
  | none => simp [hc] at hr
  | some c =>
    obtain ⟨_, ⟨_, lines⟩, _, _, _, _, _, _, cell⟩ := inRange c hc
    cases hcell : c.statusCell with
    | none => simp [hc, hcell] at hr
    | some lk =>
      obtain ⟨hl, _⟩ := cell lk.1 lk.2 hcell
      simp only [hc, hcell, Option.bind_some, List.mem_cons, List.not_mem_nil, or_false] at hr
      omega

/-! ### The notices of a plan operation -/

theorem admitRow_engine : (admitRow s).pipe.engine = s.pipe.engine := by
  unfold admitRow
  split
  · split <;> rfl
  · rfl

/-- R92, R151: a look for a row does nothing, or it starts an IDLE engine and stops the drift timer. -/
theorem lookForRow_cases : lookForRow s = s ∨
    s.pipe.engine = .idle ∧ onTheLink s = true ∧ (lookForRow s).pipe.engine = .running ∧
      (lookForRow s).touch.driftTimer = none := by
  unfold lookForRow
  split
  · rename_i h
    obtain ⟨hidle, hon, _⟩ := h
    exact .inr ⟨hidle, hon, admitRow_engine, rfl⟩
  · exact .inl rfl

theorem LookedForRow.congr {s' t' : State} (h : LookedForRow s t) (hs : s'.pipe = s.pipe) (hpipe : t'.pipe = t.pipe)
    (hplan : t'.plan = t.plan) (hlines : t'.touch.lines = t.touch.lines) : LookedForRow s' t' := by
  simpa only [LookedForRow, NoRowEligible, EngineStarted, hs, hpipe, jobAt_congr hplan, lineClosed_congr hlines] using h

/-- R149: only a RUNNING or PAUSED hold timer is judged. -/
theorem holdJudged_iff : HoldJudged s t ↔ t.touch.holdPhase =
    if s.touch.holdPhase = .running ∨ s.touch.holdPhase = .paused then
      if holdCondition t then .running else .paused
    else s.touch.holdPhase := by
  unfold HoldJudged
  cases s.touch.holdPhase <;> simp

/-- R149: of two judgements the second decides. -/
theorem HoldJudged.trans (h : HoldJudged s u) (g : HoldJudged u t) : HoldJudged s t := by
  rw [holdJudged_iff] at *
  rw [g, h]
  by_cases live : s.touch.holdPhase = .running ∨ s.touch.holdPhase = .paused
  · cases holdCondition u <;> simp [live]
  · simp [live]

theorem HandedOn.congr {s' t' : State} (h : HandedOn s t) (hs1 : s'.start = s.start) (hs2 : s'.pipe = s.pipe)
    (hs3 : s'.touch = s.touch) (ht1 : t'.start = t.start) (ht2 : t'.pipe = t.pipe) (ht3 : t'.touch = t.touch)
    (ht4 : t'.plan = t.plan) : HandedOn s' t' := by
  obtain ⟨looked, judged, touch⟩ := h
  refine ⟨?_, ?_, by rw [ht3, ht2, hs2, hs3]; exact touch⟩
  · rw [hs2, onTheLink_congr hs1, ht2]
    split
    · rename_i hon
      rw [if_pos hon] at looked
      exact looked.congr hs2 ht2 ht4 (by rw [ht3])
    · rename_i hon
      rwa [if_neg hon] at looked
  · rw [holdJudged_iff] at *
    rw [ht3, hs3, holdCondition_congr ht1 ht4 (by rw [ht3])]
    exact judged

/-- R92: notices that leave an IDLE engine found it IDLE, and it found no row. -/
theorem HandedOn.pipe_of_idle (h : HandedOn s u) (hu : u.pipe.engine = .idle) : u.pipe = s.pipe := by
  obtain ⟨looked, _, _⟩ := h
  split at looked
  · obtain ⟨same, _⟩ | ⟨r, j, started, _⟩ := looked
    · exact same
    · rw [started] at hu
      cases hu
  · exact looked

/-- R66: notices given twice, the first of which started nothing, are notices given once. -/
theorem HandedOn.trans_of_idle (h : HandedOn s u) (g : HandedOn u t) (hu : u.pipe.engine = .idle)
    (hstart : u.start = s.start) : HandedOn s t := by
  have hpipe := h.pipe_of_idle hu
  obtain ⟨_, judged, touch⟩ := h
  obtain ⟨looked', judged', touch'⟩ := g
  rw [if_pos (by rw [hpipe])] at touch
  refine ⟨?_, judged.trans judged', ?_⟩
  · rw [hpipe, onTheLink_congr hstart] at looked'
    split
    · rename_i hon
      rw [if_pos hon] at looked'
      exact looked'.congr hpipe.symm rfl rfl rfl
    · rename_i hon
      rwa [if_neg hon] at looked'
  · rw [hpipe, touch] at touch'
    exact touch'

/-- R66: the notices to the row pipeline and the touch guard. -/
theorem handedOn_quietNotices (hempty : s.pipe.engine = .idle → slotsEmpty s = true) :
    HandedOn s (quietNotices s) := by
  have look := changes_lookForRow s
  have judge := changes_judgeHold (lookForRow s)
  have lookTouch := lookForRow_touch s
  have judgeTouch := judgeHold_touch (lookForRow s)
  have pipe : (quietNotices s).pipe = (lookForRow s).pipe := judge.pipe
  refine ⟨?_, ?_, ?_⟩
  · split
    · rename_i hon
      obtain ⟨hidle, hon⟩ := hon
      exact (lookForRow_spec s hidle hon (hempty hidle)).congr rfl pipe judge.plan
        (by rw [quietNotices_lines, lookTouch])
    · rename_i hoff
      obtain same | ⟨hidle, hon, _⟩ := lookForRow_cases (s := s)
      · rw [pipe, same]
      · exact absurd ⟨hidle, hon⟩ hoff
  · have phase : (lookForRow s).touch.holdPhase = s.touch.holdPhase := by rw [lookTouch]
    have cond : holdCondition (quietNotices s) = holdCondition (lookForRow s) :=
      holdCondition_congr judge.start judge.plan (by rw [quietNotices_lines, lookTouch])
    rw [holdJudged_iff, cond, ← phase]
    exact judgeHold_phase (lookForRow s)
  · have drift : (quietNotices s).touch.driftTimer = (lookForRow s).touch.driftTimer := by
      rw [quietNotices, judgeTouch]
    rw [quietNotices_touch, drift, pipe]
    obtain same | ⟨hidle, _, hrun, hdrift⟩ := lookForRow_cases (s := s)
    · rw [same, if_pos rfl]
    · rw [hdrift, hidle, hrun, if_neg (by decide)]

/-! ### A new pattern on a tile with a status cell -/

/-- R162, R66: a new pattern has been set, the status rows refreshed under it, and the notices given but for the settle
check. -/
structure StatusRefreshed (s t : State) : Prop where
  changes : Changes [.pattern, .plan, .pipe, .touch] s t
  pattern : t.pattern = patternOf s
  faults : t.plan.faults = s.plan.faults
  handedOn : HandedOn s t
  jobs : ∀ r, jobAt t r = if r ∈ statusRows s then refreshedJob s t r else jobAt s r

/-- A status row that the refresh left without a job has nothing to move. -/
theorem StatusRefreshed.diff_empty (h : StatusRefreshed s u) {r : Nat} (hr : r ∈ statusRows s)
    (hnone : jobAt u r = none) : (diff u r).isEmpty = true := by
  have job := h.jobs r
  rw [if_pos hr, hnone] at job
  exact refreshedJob_eq_none_iff.mp job.symm

theorem recomputePatternWith_refreshes (notify : State → State) (h : ¬ (patternOf s = s.pattern ∨ statusRows s = [])) :
    recomputePatternWith notify s = notify (refreshRows (statusRows s) (setPattern s)) := by
  obtain ⟨changed, hrows⟩ := not_or.mp h
  rw [recomputePatternWith, if_neg changed, if_neg hrows]

theorem statusRefreshed (hlt : ∀ r ∈ statusRows s, r < 24) (hempty : s.pipe.engine = .idle → slotsEmpty s = true) :
    StatusRefreshed s (quietNotices (refreshRows (statusRows s) (setPattern s))) := by
  have refresh := changes_refreshRows (statusRows s) (setPattern s)
  have notices := changes_quietNotices (refreshRows (statusRows s) (setPattern s))
  have faults := refreshRows_faults (setPattern s) (statusRows s)
  refine ⟨((changes_setPattern s).comp refresh (ds := [.pattern, .plan, .pipe, .touch])).comp notices, ?_, ?_, ?_, ?_⟩
  · rw [notices.pattern, refresh.pattern]
    rfl
  · rw [notices.plan, faults]
    rfl
  · refine (handedOn_quietNotices ?_).congr refresh.start.symm refresh.pipe.symm refresh.touch.symm rfl rfl rfl rfl
    rw [slotsEmpty, refresh.pipe]
    exact hempty
  · intro r
    rw [jobAt_congr notices.plan, jobAt_refreshRows _ statusRows_nodup hlt]
    split
    · refine refreshedJob_congr rfl (diff_congr ?_ ?_ ?_ ?_ ?_ r).symm fun m => (baseLevel_congr ?_ ?_ r m).symm
      · rw [notices.start, refresh.start]
      · rw [notices.page, refresh.page]
      · rw [notices.shown, refresh.shown]
      · rw [notices.pattern, refresh.pattern]
      · rw [notices.plan, faults]
      · rw [notices.start, refresh.start]
      · rw [notices.plan, faults]
    · rfl

/-! ### Settling under the new pattern -/

theorem canSettle_iff : canSettle s = true ↔
    s.page.state = .working ∧ planEmpty s = true ∧ s.pipe.engine = .idle := by
  simp [canSettle, and_assoc]

theorem settleCheck_of_canSettle (h : canSettle s = true) : settleCheck s = settlePage s := if_pos h

theorem settleCheck_of_not_canSettle (h : ¬ canSettle s = true) : settleCheck s = s := if_neg h

theorem tryContend_draws : (tryContend s).draws =
    if headReady s && s.link.quiet && s.link.wait.isNone then s.draws + 1 else s.draws := by
  unfold tryContend
  split <;> rfl

theorem tryContend_draws_congr (h1 : t.start = s.start) (h2 : t.link = s.link) (h3 : t.draws = s.draws) :
    (tryContend t).draws = (tryContend s).draws := by
  have ready : headReady t = headReady s := by rw [headReady, headReady, h1, h2]
  rw [tryContend_draws, tryContend_draws, ready, h2, h3]

theorem joinTail_draws_congr (f : QFrame) (h1 : t.start = s.start) (h2 : t.link = s.link) (h3 : t.draws = s.draws) :
    (joinTail f t).draws = (joinTail f s).draws :=
  tryContend_draws_congr h1 (by simp [h2]) h3

/-- The draws after an announcement depend on the life state, the link controller and the draws alone. -/
theorem enqueueAnnounce_draws_congr (k : Announce) (h1 : t.start = s.start) (h2 : t.link = s.link)
    (h3 : t.draws = s.draws) : (enqueueAnnounce k t).draws = (enqueueAnnounce k s).draws := by
  have room : (makeRoom t).link = (makeRoom s).link := by
    simp only [makeRoom, count, State.withLink_link, h2]
  unfold enqueueAnnounce
  rw [h2]
  split
  · rw [(changes_renewQueued k t).draws, (changes_renewQueued k s).draws, h3]
  · split
    · exact joinTail_draws_congr _ h1 h2 h3
    · refine joinTail_draws_congr _ ?_ room ?_
      · rw [(changes_makeRoom t).start, (changes_makeRoom s).start, h1]
      · rw [(changes_makeRoom t).draws, (changes_makeRoom s).draws, h3]

/-- R55, R57: the page has settled and is announced, the pattern not yet worked out again. -/
def settledAndAnnounced (s : State) : State :=
  let n := stuckOffCount s
  announce s.page.turned (settleOutcome n) n
    (s.withPage { s.page with state := .settled, outcome := settleOutcome n, detail := n })

theorem settlePage_eq : settlePage s = recomputePatternWith quietNotices (settledAndAnnounced s) := rfl

theorem changes_settledAndAnnounced : Changes [.page, .link, .draws] s (settledAndAnnounced s) :=
  (changes_withPage _ _).comp (changes_announce _ _ _ _)

theorem settledAndAnnounced_page : (settledAndAnnounced s).page = { s.page with
    state := .settled, outcome := settleOutcome (stuckOffCount s), detail := stuckOffCount s
    record := ⟨s.page.turned, settleOutcome (stuckOffCount s), stuckOffCount s⟩ } :=
  (changes_enqueueAnnounce _ _).page

theorem settledAndAnnounced_link : (settledAndAnnounced s).link = (enqueueAnnounce .settled s).link :=
  enqueueAnnounce_link_congr _ rfl rfl rfl

theorem settledAndAnnounced_draws : (settledAndAnnounced s).draws = (enqueueAnnounce .settled s).draws :=
  enqueueAnnounce_draws_congr _ rfl rfl rfl

/-- R57, R162: an event that refreshed the status rows from `s` to `u` has settled the page and the pattern has been
worked out again.  Seen from `s`, the notices were given once and the status rows start from no job. -/
structure SettledFrom (s u t : State) : Prop where
  changes : Changes [.pattern, .plan, .pipe, .touch] (settledAndAnnounced u) t
  faults : t.plan.faults = s.plan.faults
  handedOn : HandedOn s t
  jobs : ∀ r, jobAt t r = if r ∈ statusRows s then freshJob t r else none

theorem settledFrom_settlePage (hlt : ∀ r ∈ statusRows s, r < 24) (hempty : s.pipe.engine = .idle → slotsEmpty s = true)
    (hrows : statusRows s ≠ []) (hu : StatusRefreshed s u) (hidle : u.pipe.engine = .idle)
    (hnone : ∀ r, jobAt u r = none) : SettledFrom s u (settlePage u) := by
  have c := changes_settledAndAnnounced (s := u)
  have hstart : (settledAndAnnounced u).start = s.start := c.start.trans hu.changes.start
  have rows : statusRows (settledAndAnnounced u) = statusRows s := statusRows_congr hstart
  have pipe : (settledAndAnnounced u).pipe = s.pipe := c.pipe.trans (hu.handedOn.pipe_of_idle hidle)
  have handed : HandedOn s (settledAndAnnounced u) := hu.handedOn.congr rfl rfl rfl c.start c.pipe c.touch c.plan
  have noJob (r : Nat) : jobAt (settledAndAnnounced u) r = none := (jobAt_congr c.plan r).trans (hnone r)
  have faults : (settledAndAnnounced u).plan.faults = s.plan.faults := by rw [c.plan, hu.faults]
  rw [settlePage_eq]
  by_cases same : patternOf (settledAndAnnounced u) = (settledAndAnnounced u).pattern
  · rw [recomputePatternWith, if_pos same]
    refine ⟨.refl _ _, faults, handed, fun r => ?_⟩
    rw [noJob]
    split
    · rename_i hr
      have diffSame : diff (settledAndAnnounced u) r = diff u r :=
        diff_congr c.start (by rw [settledAndAnnounced_page]) c.shown c.pattern (by rw [c.plan]) r
      rw [freshJob, diffSame, if_pos (hu.diff_empty hr (hnone r))]
    · rfl
  · rw [recomputePatternWith_refreshes _ (not_or.mpr ⟨same, by rwa [rows]⟩)]
    have again := statusRefreshed (s := settledAndAnnounced u) (by rwa [rows]) (by rwa [slotsEmpty, pipe])
    refine ⟨again.changes, again.faults.trans faults, ?_, fun r => ?_⟩
    · exact handed.trans_of_idle again.handedOn (by rw [c.pipe, hidle]) hstart
    · rw [again.jobs, rows, noJob, refreshedJob_of_no_job (noJob r)]

/-- R55, R56, R57: the settle that the notices of a new pattern bring, in the terms of `PatternWorkedOut`. -/
theorem settles_under_new_pattern (hlt : ∀ r ∈ statusRows s, r < 24)
    (hempty : s.pipe.engine = .idle → slotsEmpty s = true) (hrows : statusRows s ≠ []) (hu : StatusRefreshed s u)
    (can : canSettle u = true) :
    HandedOn s (settlePage u) ∧ Settles (patternOf s) s (settlePage u) ∧ s.pipe.engine = .idle ∧
      PlanEmptyUnder (patternOf s) (settlePage u) ∧
      ∀ r, jobAt (settlePage u) r = if r ∈ statusRows s then freshJob (settlePage u) r else none := by
  obtain ⟨working, hnoJob, hidle⟩ := canSettle_iff.mp can
  have hnone := planEmpty_iff.mp hnoJob
  have same := hu.changes
  have settled := settledFrom_settlePage hlt hempty hrows hu hidle hnone
  generalize settlePage u = t at settled
  have changed := changes_settledAndAnnounced.comp settled.changes (ds := workBlocks)
  have page : t.page = _ := settled.changes.page.trans settledAndAnnounced_page
  have hstart : t.start = u.start := changed.start
  have htarget : t.page.target = u.page.target := by rw [page]
  have hfaults : t.plan.faults = u.plan.faults := settled.faults.trans hu.faults.symm
  have count : stuckOffCount (t.withPattern (patternOf s)) = stuckOffCount u :=
    stuckOffCount_congr hstart htarget changed.shown hu.pattern.symm hfaults
  refine ⟨settled.handedOn, ⟨stuckOffCount u, count.symm, ?_, ?_, ?_, ?_⟩, ?_, fun r => ?_, settled.jobs⟩
  · rw [← same.page, working]
  · rw [page, same.page]
  · rw [settled.changes.link, settledAndAnnounced_link]
    exact enqueueAnnounce_link_congr _ same.start same.link same.draws
  · rw [settled.changes.draws, settledAndAnnounced_draws]
    exact enqueueAnnounce_draws_congr _ same.start same.link same.draws
  · rw [← hu.handedOn.pipe_of_idle hidle, hidle]
  · rw [statusRows_congr (hstart.trans same.start), settled.jobs]
    split
    · rename_i hr
      have diffSame : diff (t.withPattern (patternOf s)) r = diff u r :=
        diff_congr (t := t.withPattern (patternOf s)) hstart htarget changed.shown hu.pattern.symm hfaults r
      rw [diffSame]
      exact hu.diff_empty hr (hnone r)
    · rfl

/-! ### The pattern worked out -/

theorem recomputePattern_withRail_rail (x : RailShare) : (recomputePattern (s.withRail x)).rail = x :=
  (changes_recomputePattern _).rail

/-- R161: where the pattern stays, or no status cell is designated, nothing but the pattern can change. -/
theorem changes_recomputePattern_of_no_refresh (h : patternOf s = s.pattern ∨ statusRows s = []) :
    Changes [.pattern] s (recomputePattern s) := by
  unfold recomputePattern recomputePatternWith
  by_cases same : patternOf s = s.pattern
  · rw [if_pos same]
    exact .refl _ _
  · rw [if_neg same, if_pos (h.resolve_left same)]
    exact changes_setPattern s

/-- R161, R162, R74, R56: what the pattern's work leaves, in a state whose slots are empty while the engine is IDLE. -/
theorem patternWorkedOut_recomputePattern (hlt : ∀ r ∈ statusRows s, r < 24)
    (hempty : s.pipe.engine = .idle → slotsEmpty s = true) : PatternWorkedOut s (recomputePattern s) := by
  refine ⟨recomputePattern_right s, (workKept_recomputePattern s).faults, ?_⟩
  split
  · rename_i h
    have kept := changes_recomputePattern_of_no_refresh h
    exact ⟨kept.page, kept.plan, kept.pipe, kept.touch, kept.link, kept.draws⟩
  · rename_i h
    have hu := statusRefreshed hlt hempty
    have recomputed : recomputePattern s = settleCheck (quietNotices (refreshRows (statusRows s) (setPattern s))) :=
      recomputePatternWith_refreshes planNotices h
    rw [recomputed]
    generalize quietNotices (refreshRows (statusRows s) (setPattern s)) = u at hu
    by_cases can : canSettle u = true
    · obtain ⟨handed, settled⟩ := settles_under_new_pattern hlt hempty (not_or.mp h).2 hu can
      rw [settleCheck_of_canSettle can]
      exact ⟨handed, .inr settled⟩
    · have same := hu.changes
      rw [settleCheck_of_not_canSettle can]
      refine ⟨hu.handedOn, .inl ⟨⟨same.page, same.link, same.draws, fun working hidle => ?_⟩, hu.jobs⟩⟩
      exact Bool.eq_false_iff.mpr fun hnoJob => can (canSettle_iff.mpr ⟨by rw [same.page, working], hnoJob, hidle⟩)

/-! ### SETTLED -/

theorem takeSettled_known {sender outcome : Byte} {serial : Half} (h : inView s.rail.view sender = true) :
    takeSettled sender serial outcome s =
      recomputePattern (s.withRail { s.rail with view := settleEntry s.rail.view sender serial outcome }) := if_pos h

theorem takeSettled_unknown {sender outcome : Byte} {serial : Half} (h : ¬ inView s.rail.view sender = true) :
    takeSettled sender serial outcome s = s := if_neg h

/-- R17: the outcomes that a SETTLED carries. -/
theorem outcomeOfCode_settled {c : Byte} (h1 : 1 ≤ c.toNat) (h4 : c.toNat ≤ 4) :
    outcomeOfCode c = if c = 1 then .done else if c = 2 then .doneFaults else if c = 3 then .held else .lacking := by
  have hc : c = 1 ∨ c = 2 ∨ c = 3 ∨ c = 4 := by bv_omega
  rcases hc with rfl | rfl | rfl | rfl <;> rfl

end Pattern

/-! ### The obligation -/

/-- Settles O23: R159 and R160 by the pattern's equations; R122 by whether the view holds the sender, the pattern's work
being `patternWorkedOut_recomputePattern`. -/
theorem settledFrameUpdatesItsEntry : Obligations.SettledFrameUpdatesItsEntry := by
  unfold Obligations.SettledFrameUpdatesItsEntry
  constructor
  · intro s overlay ready hoverlay
    have hattention : attention s = overlay := Bool.eq_iff_iff.mpr (attention_iff.trans hoverlay.symm)
    rw [← hattention]
    exact ⟨patternOf_blank, fun turned hready => patternOf_ready turned (pageReady_iff.mpr hready),
      fun turned hready => patternOf_working turned (mt pageReady_iff.mp hready)⟩
  · intro sender serial outcome detail s hears hlow hhigh hstart hslots
    refine ⟨takeSettled sender serial outcome (lineBusy s),
      exec_delivered (b := .settled serial outcome detail) rfl hears (by simp [bodyOk, hlow, hhigh]), ?_⟩
    split
    · rename_i known
      rw [takeSettled_known (s := lineBusy s) known]
      obtain ⟨idleEmpty, _⟩ := hslots
      refine ⟨?_, (workKept_recomputePattern _).draws rfl, ?_, ?_⟩
      · exact (((changes_lineBusy s).comp (changes_withRail _ _) (ds := .rail :: workBlocks)).comp
          (changes_recomputePattern _) (ds := .rail :: workBlocks)).mono (by decide)
      · rw [recomputePattern_withRail_rail, ← outcomeOfCode_settled hlow hhigh]
        rfl
      · rw [recomputePattern_withRail_rail]
        exact patternWorkedOut_recomputePattern (statusRows_lt hstart) idleEmpty
    · rename_i unknown
      rw [takeSettled_unknown (s := lineBusy s) unknown]
      exact ⟨changes_lineBusy s, rfl⟩

end Sys2Proof.Machine
end

section
/-!
The queries on the counters (R172, R178): first the state that a taken query leaves, from what R168 makes of it, and
what a REPLY joining the transmit queue keeps; then the obligations on STATUS_COUNTERS and CLEAR_COUNTERS.
-/

namespace Sys2Proof.Machine

section Queries
variable {s : State}

/-! ### A taken query -/

theorem classify_counters : classify 1 [1] = .counters := rfl

theorem classify_clearCounters : classify 7 [] = .clearCounters := rfl

/-- R167, R30: the action of a query first, then the reply, built from the state that the action leaves; a reply that
joins the queue draws no slot while the line is not quiet (R24). -/
theorem answerQuery_of_classify {tag kind : Byte} {arg : List Byte} {q : QueryCase} (hq : classify kind arg = q)
    (notQuiet : (queryAction q s).link.quiet = false) :
    answerQuery tag kind arg s = (queryAction q s).withLink
      (linkWithReply (replyTo tag kind q (queryAction q s)) (queryAction q s).link) := by
  subst hq
  exact enqueueReply_of_not_quiet _ notQuiet

/-- A taken query whose action stays in the link controller and leaves the line busy. -/
theorem exec_query_linkOnly {c : Instr} {sender target tag kind : Byte} {arg : List Byte} {q : QueryCase}
    (hc : frameOf c = some (sender, .query target tag kind arg)) (taken : TakesQuery s sender target)
    (hlen : arg.length ≤ 4) (hq : classify kind arg = q)
    (notQuiet : (queryAction q (lineBusy s)).link.quiet = false)
    (changed : Changes [.link] (lineBusy s) (queryAction q (lineBusy s))) :
    ∃ t, exec c s = .next t ∧ Changes [.link] s t ∧
      t.link = linkWithReply (replyTo tag kind q (queryAction q (lineBusy s))) (queryAction q (lineBusy s)).link := by
  refine ⟨_, exec_query hc taken hlen, ?_, ?_⟩
  · rw [answerQuery_of_classify hq notQuiet]
    exact ((changes_lineBusy s).trans changed).trans (changes_withLink _ _)
  · rw [answerQuery_of_classify hq notQuiet, State.withLink_link]

/-! ### The actions -/

theorem queryAction_counters : queryAction .counters s = s := rfl

theorem queryAction_clearCounters : queryAction .clearCounters s = zeroCounters s := rfl

theorem changes_zeroCounters (s : State) : Changes [.link] s (zeroCounters s) := changes_withLink _ _

/-- R178: the clash flag, and all else of the link controller, stays. -/
@[simp] theorem zeroCounters_link : (zeroCounters s).link = { s.link with counters := Counters.zero } := rfl

/-! ### The reply -/

theorem replyTo_counters (tag : Byte) :
    replyTo tag 1 .counters s =
      { tag := tag, outcome := 1, kind := 1, code := 0, data := (Counters.list s.link.counters).flatMap u16 } := rfl

theorem replyTo_clearCounters (tag : Byte) :
    replyTo tag 7 .clearCounters s = { tag := tag, outcome := 1, kind := 7, code := 0, data := [] } := rfl

@[simp] theorem linkWithReply_clash (r : Reply) (l : Link) : (linkWithReply r l).clash = l.clash := by
  unfold linkWithReply
  split
  · rfl
  · split <;> rfl

/-- R30: a REPLY that finds the queue full is dropped and counted, and nothing more. -/
theorem linkWithReply_of_full (r : Reply) {l : Link} (full : queueLimit ≤ l.queue.length) :
    linkWithReply r l = { l with counters := l.counters.inc .repliesDropped } := if_pos full

end Queries

/-! ### The obligations -/

/-- Settles O26: the query has no action, so the counters in the reply are those of the busy line's link controller,
which are those of `s`. -/
theorem statusCountersReportsTheCounters : Obligations.StatusCountersReportsTheCounters := by
  unfold Obligations.StatusCountersReportsTheCounters
  intro sender target tag s taken
  obtain ⟨t, hexec, changed, hlink⟩ := exec_query_linkOnly (c := .statusCounters sender target tag [1]) rfl taken
    (by decide) classify_counters (busyLink_quiet (s := s)) (.refl _ _)
  rw [queryAction_counters, replyTo_counters] at hlink
  exact ⟨t, s.link.counters, rfl, hexec, changed, hlink⟩

/-- Settles O32: the reply joins, or is dropped from, the queue of a link controller whose counters are already 0; so a
drop makes `repliesDropped` 1. -/
theorem clearCountersZeroesTheCounters : Obligations.ClearCountersZeroesTheCounters := by
  unfold Obligations.ClearCountersZeroesTheCounters
  intro sender target tag s taken
  obtain ⟨t, hexec, changed, hlink⟩ := exec_query_linkOnly (c := .clearCounters sender target tag []) rfl taken
    (by decide) classify_clearCounters (busyLink_quiet (s := s)) (changes_zeroCounters _)
  rw [queryAction_clearCounters, replyTo_clearCounters, zeroCounters_link, lineBusy_link] at hlink
  refine ⟨t, hexec, changed, hlink, ?_, fun full => ?_⟩
  · rw [hlink, linkWithReply_clash]
    rfl
  · rw [hlink, linkWithReply_of_full (l := { busyLink s with counters := Counters.zero }) _ full]
    rfl

end Sys2Proof.Machine
end

section
/-!
What one step of the tile can do, said once: `Event s t` lists the operations that a command or the passing of time comes
down to, with what the receive checks (R20), the clash check (R22) and the life states have settled by then.  The
invariants are proved over it, event by event.
-/

namespace Sys2Proof.Machine

/-- The four guard events of a line (R143). -/
inductive GuardStep : (LineGuard → LineGuard) → Prop
  | begins : GuardStep LineGuard.presenceBegins
  | ends : GuardStep LineGuard.presenceEnds
  | arrival : GuardStep LineGuard.arrivalExpires
  | departure : GuardStep LineGuard.departureExpires

/-- A frame delivered on the link (R23), with the checks of R17 that the deliveries rest on. -/
inductive Delivery (s : State) : State → Prop
  | page (serial : Half) (mode : Byte) (hs : serial ≠ 0) : Delivery s (takePage serial mode s)
  | content (serial seq : Half) (line first : Byte) (cells : List Byte) (hq : seq.toNat ≤ 4095) :
    Delivery s (takeContent serial seq line first cells s)
  | turn (serial total : Half) : Delivery s (takeTurn serial total s)
  | settled (sender : Byte) (serial : Half) (outcome : Byte) : Delivery s (takeSettled sender serial outcome s)
  | draw (sender demand : Byte) (serial : Half) (outcome : Byte) (hd : demand.toNat ≤ 12)
    (hst : station s ≠ some sender) : Delivery s (takeDraw sender demand serial outcome s)
  | query (tag kind : Byte) (arg : List Byte) (hj : s.start.life = .joined) : Delivery s (answerQuery tag kind arg s)
  | pageReset : Delivery s (pageReset s)
  | linkReset : Delivery s (linkReset s)
  | nothing : Delivery s s

/-- What a command, or 1 ms without one, makes of a tile. -/
inductive Event (s : State) : State → Prop
  | nothing : Event s s
  | powerOn (straps : BitVec 5) : Event s (powerOn straps s)
  | holdReset : Event s (holdReset s)
  | endConfig (memory : List Byte) (strips : BitVec 6) (hl : s.start.life = .config) :
    Event s (endConfig memory strips s)
  | finishScan (sensed : Vector PinSet 24) (hl : s.start.life = .scan) : Event s (finishScan sensed s)
  | enterJoined (hd : Timer.due joinPeriod s.start.joinTimer = true) : Event s (enterJoined s)
  | lineBusy : Event s (lineBusy s)
  | counted (k : Counter) : Event s (count k (Machine.lineBusy s))
  | clash : Event s (noteClash (Machine.lineBusy s))
  | delivered {t : State} (ho : onTheLink s = true) (d : Delivery (Machine.lineBusy s) t) : Event s t
  | quietGap : Event s (quietGapEnds s)
  | slot : Event s (beginAttempt s)
  | collision (o : OnLine) (ho : s.link.onLine = some o) (hp : o.phase = .sending) : Event s (collide o s)
  | jamEnd (o : OnLine) (ho : s.link.onLine = some o) (hp : o.phase = .jamming) : Event s (endJam o s)
  | completes (o : OnLine) (ho : s.link.onLine = some o) (hp : o.phase = .sending) : Event s (completeAttempt o s)
  | linkUp : Event s (lineComesUp s)
  | linkDown : Event s (lineGoesDown s)
  | stepTimer (sensed : PinSet) : Event s (stepExpires sensed s)
  | railTimer : Event s (railExpires s)
  | refreshTimer : Event s (refreshExpires s)
  | riseTimer : Event s (riseExpires s)
  | entry (station : Byte) : Event s (expireEntry station s)
  | guard (l : Nat) {f : LineGuard → LineGuard} (hf : GuardStep f) : Event s (guardEvent l f s)
  | strip (l : Nat) : Event s (stripFails l s)
  | holdLimit : Event s (holdExpires s)
  | drift (r0 r1 r2 r3 : PinSet) : Event s (driftExpires r0 r1 r2 r3 s)
  | time : Event s (passTime s)

section Commands
variable {s t : State}

/-- R182: a command of a part that is held in reset does nothing. -/
theorem whenRunning_event {f : State → State} (hf : Event s (f s)) (h : whenRunning s f = .next t) : Event s t := by
  unfold whenRunning at h
  split at h <;> cases h
  · exact .nothing
  · exact hf

/-- R23: a delivery, by the kind of the body. -/
theorem deliver_delivery {sender : Byte} {b : Body} (hb : bodyOk b = true) (hst : station s ≠ some sender) :
    Delivery s (deliver sender b s) := by
  cases b with
  | page serial mode =>
    simp only [bodyOk, Bool.and_eq_true, bne_iff_ne] at hb
    exact .page _ _ hb.1
  | content serial seq line first cells =>
    simp only [bodyOk, Bool.and_eq_true, decide_eq_true_eq] at hb
    obtain ⟨⟨⟨⟨_, hq⟩, _⟩, _⟩, _⟩ := hb
    exact .content _ _ _ _ _ hq
  | turn serial total => exact .turn _ _
  | settled serial outcome detail => exact .settled _ _ _
  | draw demand fl lc fc cc ps serial outcome => exact .draw _ _ _ _ (by simpa [bodyOk] using hb) hst
  | query target tag kind arg =>
    show Delivery s (if _ then _ else _)
    split
    · rename_i hj
      unfold takeQuery
      split
      · exact .query _ _ _ hj
      · exact .nothing
    · exact .nothing
  | reply tag outcome kind code data => exact .nothing
  | reset target scope =>
    show Delivery s (takeReset _ _ _)
    unfold takeReset
    split
    · split
      · exact .pageReset
      · exact .linkReset
    · exact .nothing

/-- R20: a verdict of a good frame carries a body that passes the checks of R17. -/
theorem judgeBody_good {kind sender a : Byte} {bytes : List Byte} {b : Body}
    (h : judgeBody kind sender bytes = .good a b) : bodyOk b = true := by
  unfold judgeBody at h
  split at h
  · cases h
  · split at h
    · rename_i hb
      cases h
      exact hb
    · cases h

theorem judgeFields_good {chars : List Byte} {a : Byte} {b : Body} (h : judgeFields chars = .good a b) :
    bodyOk b = true := by
  unfold judgeFields at h
  split at h
  · split at h
    · cases h
    · split at h
      · cases h
      · split at h
        · cases h
        · exact judgeBody_good h
  · cases h

theorem judgeFrame_good {broken : Bool} {chars : List Byte} {a : Byte} {b : Body}
    (h : judgeFrame broken chars = .good a b) : bodyOk b = true := by
  unfold judgeFrame at h
  split at h
  · cases h
  · split at h
    · cases h
    · exact judgeFields_good h

theorem judgeParsed_good {sender a : Byte} {b b' : Body} (h : judgeParsed sender b = .good a b') :
    bodyOk b' = true := by
  unfold judgeParsed at h
  split at h
  · cases h
  · split at h
    · rename_i hb
      cases h
      exact hb
    · cases h

/-- R19 to R23: a frame heard to its end, by its verdict. -/
theorem hearFrame_event {v : Verdict} (hv : ∀ a b, v = .good a b → bodyOk b = true) :
    Event s (hearFrame (actOnVerdict v) s) := by
  unfold hearFrame
  split
  · rename_i ho
    cases v with
    | crcError => exact .counted _
    | malformed => exact .counted _
    | unknownKind => exact .counted _
    | good a b =>
      show Event s (acceptFrame a b (lineBusy s))
      unfold acceptFrame
      split
      · exact .clash
      · rename_i hst
        exact .delivered ho (deliver_delivery (hv a b rfl) hst)
  · exact .lineBusy

theorem receiveBody_event (sender : Byte) (b : Body) : Event s (receiveBody sender b s) :=
  hearFrame_event fun _ _ => judgeParsed_good

theorem receiveHeard_event (h : Heard) : Event s (receiveHeard h s) := by
  unfold receiveHeard
  split
  · exact .nothing
  · exact hearFrame_event fun _ _ => judgeFrame_good

theorem whileSending_event {f : OnLine → State → State}
    (hf : ∀ o, s.link.onLine = some o → o.phase = .sending → Event s (f o s)) : Event s (whileSending f s) := by
  unfold whileSending
  split
  · exact .nothing
  · rename_i o ho
    split
    · rename_i hp
      exact hf o ho hp
    · exact .nothing

theorem whileJamming_event {f : OnLine → State → State}
    (hf : ∀ o, s.link.onLine = some o → o.phase = .jamming → Event s (f o s)) : Event s (whileJamming f s) := by
  unfold whileJamming
  split
  · exact .nothing
  · rename_i o ho
    split
    · rename_i hp
      exact hf o ho hp
    · exact .nothing

/-- Every command is one of the events. -/
theorem exec_event (c : Instr) (h : exec c s = .next t) : Event s t := by
  have frame {a : Byte} {b : Body} (hc : frameOf c = some (a, b)) : Event s t := by
    rw [exec_of_frameOf hc] at h
    exact whenRunning_event (receiveBody_event a b) h
  cases c with
  | powerOn straps => cases h; exact .powerOn straps
  | resetPinAsserted => cases h; exact .holdReset
  | resetPinReleased straps => cases h; exact .powerOn straps
  | endOfConfig memory strips =>
    refine whenRunning_event (f := fun s => if s.start.life = .config then endConfig memory strips s else s) ?_ h
    split
    · rename_i hl; exact .endConfig _ _ hl
    · exact .nothing
  | scanComplete sensed =>
    refine whenRunning_event (f := fun s => if s.start.life = .scan then finishScan sensed s else s) ?_ h
    split
    · rename_i hl; exact .finishScan _ hl
    · exact .nothing
  | joinListenTimerExpiry =>
    refine whenRunning_event
      (f := fun s => if Timer.due joinPeriod s.start.joinTimer then enterJoined s else s) ?_ h
    split
    · rename_i hd; exact .enterJoined hd
    · exact .nothing
  | discardedFrame heard => exact whenRunning_event (receiveHeard_event heard) h
  | quietGap => exact whenRunning_event .quietGap h
  | slotBegins => exact whenRunning_event .slot h
  | deferral => exact whenRunning_event .lineBusy h
  | collision => exact whenRunning_event (whileSending_event .collision) h
  | jamEnd => exact whenRunning_event (whileJamming_event .jamEnd) h
  | attemptCompletes => exact whenRunning_event (whileSending_event .completes) h
  | linkUp => exact whenRunning_event .linkUp h
  | linkDown => exact whenRunning_event .linkDown h
  | stepTimerExpiry sensed => exact whenRunning_event (.stepTimer sensed) h
  | railPeriod => exact whenRunning_event .railTimer h
  | drawRefreshTimerExpiry => exact whenRunning_event .refreshTimer h
  | settleTimerExpiry => exact whenRunning_event .riseTimer h
  | entryExpiry station => exact whenRunning_event (.entry station) h
  | presenceBegins strip => exact whenRunning_event (.guard _ .begins) h
  | presenceEnds strip => exact whenRunning_event (.guard _ .ends) h
  | arrivalFilterExpiry strip => exact whenRunning_event (.guard _ .arrival) h
  | departureFilterExpiry strip => exact whenRunning_event (.guard _ .departure) h
  | presenceTimerExpiry strip => exact whenRunning_event (.strip _) h
  | holdLimitExpiry => exact whenRunning_event .holdLimit h
  | driftTimerExpiry r0 r1 r2 r3 => exact whenRunning_event (.drift r0 r1 r2 r3) h
  | page | content | turn | settled | draw | reply | statusSummary | statusCounters | digest | faults | flatten
  | clearFaults | identify | clearCounters | unknownQuery | queryDisregarded | resetPage | resetLink
  | resetDisregarded => exact frame rfl

/-- Every step is an event of the tile, the front command having left the queue. -/
theorem step_event (h : step s = .next t) : ∃ q, Event (s.withPending q) t := by
  unfold step at h
  split at h
  · cases h
    refine ⟨s.pending, ?_⟩
    unfold idle
    split
    · exact .nothing
    · exact .time
  · rename_i c rest _
    exact ⟨rest, exec_event c h⟩

end Commands

end Sys2Proof.Machine
end

section
/-!
What page work keeps, packaged once: a property that the five elementary operations of page work keep (a new pattern, a
row refreshed, the look for a row, the judgement of the hold condition, a settle announced) is kept by the notices, the
settle and the pattern's work that are made of them.
-/

namespace Sys2Proof.Machine

/-- A property that the elementary operations of page work keep. -/
structure KeptByWork (P : State → Prop) : Prop where
  setPattern : ∀ {s}, P s → P (setPattern s)
  refreshRow : ∀ {s r}, r ∈ statusRows s ∨ r < rowCount s → P s → P (refreshRow s r)
  lookForRow : ∀ {s}, P s → P (lookForRow s)
  judgeHold : ∀ {s}, P s → P (judgeHold s)
  settled : ∀ {s}, canSettle s = true → P s → P (settledAndAnnounced s)

namespace KeptByWork
variable {P : State → Prop} (k : KeptByWork P) {s : State}
include k

theorem refreshRows {rows : List Nat} (hrows : ∀ r ∈ rows, r ∈ statusRows s ∨ r < rowCount s) (h : P s) :
    P (refreshRows rows s) := by
  unfold Machine.refreshRows
  induction rows generalizing s with
  | nil => exact h
  | cons r rows ih =>
    obtain ⟨hr, hrows⟩ := List.forall_mem_cons.mp hrows
    have hstart := (changes_refreshRow s r).start
    refine ih (fun x hx => ?_) (k.refreshRow hr h)
    rw [statusRows_congr hstart, rowCount, lineCount, hstart]
    exact hrows x hx

theorem quietNotices (h : P s) : P (quietNotices s) := k.judgeHold (k.lookForRow h)

theorem recomputePatternWith {notify : State → State} (hn : ∀ {s}, P s → P (notify s)) (h : P s) :
    P (recomputePatternWith notify s) := by
  unfold Machine.recomputePatternWith
  split
  · exact h
  · split
    · exact k.setPattern h
    · exact hn (k.refreshRows (fun _ hr => .inl hr) (k.setPattern h))

theorem settleCheck (h : P s) : P (settleCheck s) := by
  unfold Machine.settleCheck
  split
  · rename_i can
    rw [settlePage_eq]
    exact k.recomputePatternWith k.quietNotices (k.settled can h)
  · exact h

theorem planNotices (h : P s) : P (planNotices s) := k.settleCheck (k.quietNotices h)

theorem recomputePattern (h : P s) : P (recomputePattern s) := k.recomputePatternWith k.planNotices h

theorem lineOpens (h : P s) : P (lineOpens s) := k.quietNotices h

end KeptByWork

/-- R71: a rebuild, for a property that its rows keep. -/
theorem rebuildPlan_keeps {P : State → Prop} {s : State} (hr : ∀ {s r}, r < rowCount s → P s → P (rebuildRow s r)) (h : P s) : P (rebuildPlan s) := by
  have fold : ∀ (rows : List Nat) (t : State), (∀ r ∈ rows, r < rowCount t) → P t → P (rows.foldl rebuildRow t) := by
    intro rows
    induction rows with
    | nil => exact fun _ _ ht => ht
    | cons r rows ih =>
      intro t hrows ht
      obtain ⟨hrt, hrows⟩ := List.forall_mem_cons.mp hrows
      have hstart := (changes_rebuildRow t r).start
      refine ih _ (fun x hx => ?_) (hr hrt ht)
      rw [rowCount, lineCount, hstart]
      exact hrows x hx
  exact fold _ s (fun r hrow => List.mem_range.mp hrow) h

section Quiet
variable {s t : State}

theorem workKept_lookForRow : WorkKept s (lookForRow s) := by
  have c := changes_lookForRow s
  have ht := lookForRow_touch s
  exact ⟨.of_page c.page, fun _ => ⟨c.link, c.draws⟩, by rw [c.link]; exact ⟨rfl, rfl, rfl⟩, fun _ => c.draws,
    by rw [c.plan], by rw [ht], by rw [ht], by rw [ht]⟩

theorem workKept_judgeHold : WorkKept s (judgeHold s) := by
  have c := changes_judgeHold s
  have ht := judgeHold_touch s
  exact ⟨.of_page c.page, fun _ => ⟨c.link, c.draws⟩, by rw [c.link]; exact ⟨rfl, rfl, rfl⟩, fun _ => c.draws,
    by rw [c.plan], by rw [ht], by rw [ht], by rw [ht]⟩

theorem workKept_refreshRow (r : Nat) : WorkKept s (refreshRow s r) := workKept_refreshRows s [r]

/-- The blocks of page work without a settle. -/
abbrev quietBlocks : List Block := [.pattern, .plan, .pipe, .touch]

/-- A property that reads nothing of what page work without a settle changes needs to be kept by settles alone. -/
theorem keptByWork_of_settled {P : State → Prop}
    (quiet : ∀ {s t}, Changes quietBlocks s t → WorkKept s t → P s → P t)
    (settled : ∀ {s}, canSettle s = true → P s → P (settledAndAnnounced s)) : KeptByWork P where
  setPattern := quiet ((changes_setPattern _).mono (by decide)) (workKept_setPattern _)
  refreshRow _ := quiet ((changes_refreshRow _ _).mono (by decide)) (workKept_refreshRow _)
  lookForRow := quiet ((changes_lookForRow _).mono (by decide)) workKept_lookForRow
  judgeHold := quiet ((changes_judgeHold _).mono (by decide)) workKept_judgeHold
  settled := settled

end Quiet

end Sys2Proof.Machine
end

section
/-!
What every event keeps, packaged once.  A property of the link controller, the plan, the row pipeline and the touch guard
is kept by every event when the elementary operations on these four blocks keep it: `KeptByLinkWork` lists those of the
link controller, `KeptByPlantWork` those of the plan, the pipeline and the guard.  The composite operations (a turn, a
page reset, a step, a query's answer) are taken apart here and nowhere else.
-/

namespace Sys2Proof.Machine

/-- The page assembler's own blocks. -/
abbrev pageBlocks : List Block := [.page, .shown, .pattern]

/-- R49, R59: the page is WORKING, nothing yet told to the other blocks. -/
def workBegun (s : State) : State :=
  s.withPage { s.page with state := .working, outcome := .none, detail := 0, heldMark := false }

/-- The elementary operations on those blocks. -/
inductive SideStep (s : State) : State → Prop
  | pattern : SideStep s (setPattern s)
  | sensed (r : Nat) (x : PinSet) : SideStep s (senseRow r x s)
  | copied : SideStep s (s.withPage { s.page with target := s.shown })
  | opened (serial : Half) (mode : Byte) (hs : serial ≠ 0) (hn : newerThanTurned serial s.page.turned = true) :
    SideStep s (openPage serial mode s)
  | fragment (cur : Half) (e : Nat) (line first : Byte) (cells : List Byte) (he : e ≤ 4095)
    (ha : s.page.stagingState = .assembling cur e) : SideStep s (takeFragment cur e line first cells s)
  | turned (serial : Half) : SideStep s (workBegun
      (s.withPage { s.page with target := s.page.staging, turned := serial, stagingState := .empty }))
  | flattened : SideStep s (workBegun
      (s.withPage { s.page with target := s.page.target.map (fun _ => 0#8) }))
  | settled (outcome : PageOutcome) (detail : Nat) (hw : s.page.state = .working) :
    SideStep s (s.withPage { s.page with state := .settled, outcome := outcome, detail := detail })
  | held (mask : Nat) : SideStep s (s.withPage { s.page with outcome := .held, detail := mask, heldMark := true })
  | announced (serial : Half) (outcome : PageOutcome) (detail : Nat) :
    SideStep s (s.withPage { s.page with record := ⟨serial, outcome, detail⟩ })
  | cleared : SideStep s (clearPage s)

theorem SideStep.changes {s t : State} (h : SideStep s t) : Changes pageBlocks s t := by
  cases h with
  | pattern => exact (changes_setPattern _).mono (by decide)
  | sensed r x => exact (changes_senseRow _ _ _).mono (by decide)
  | _ => exact (changes_withPage _ _).mono (by decide)

/-- A property that counting and queueing keep. -/
structure KeptByQueueWork (P : State → Prop) : Prop where
  count : ∀ {s} k, P s → P (count k s)
  enqueueReply : ∀ {s} r, P s → P (enqueueReply r s)
  enqueueAnnounce : ∀ {s} k, P s → P (enqueueAnnounce k s)
  zeroCounters : ∀ {s}, P s → P (zeroCounters s)

/-- A property that the elementary operations of the link controller keep. -/
structure KeptByLinkWork (P : State → Prop) : Prop extends KeptByQueueWork P where
  tryContend : ∀ {s}, P s → P (tryContend s)
  lineBusy : ∀ {s}, P s → P (lineBusy s)
  noteClash : ∀ {s}, P s → P (noteClash s)
  quietGapEnds : ∀ {s}, P s → P (quietGapEnds s)
  beginAttempt : ∀ {s}, P s → P (beginAttempt s)
  endJam : ∀ {s o}, s.link.onLine = some o → P s → P (endJam o s)
  /-- R28: a collision, but for the notice of an abandoned DRAW. -/
  collided : ∀ {s o}, s.link.onLine = some o → o.phase = .sending → P s →
    P ((Machine.count .collisions s).withLink
      { collideLink o (Machine.count .collisions s).link with quiet := false })
  /-- R29, R30: a completion, but for the notice of a DRAW. -/
  completed : ∀ {s o}, s.link.onLine = some o → o.phase = .sending → P s →
    P (s.withLink { (if headRenew s.link.queue then s.link.renewHead else s.link.popHead) with
      onLine := none, quiet := false })
  released : ∀ {s}, P s → P (s.withLink { s.link with onLine := none })
  lineUp : ∀ {s}, s.link.lineUp = false → P s → P (s.withLink { s.link with lineUp := true, quiet := true })
  lineDown : ∀ {s}, P s → P (s.withLink { s.link with lineUp := false, quiet := false, wait := none })
  resetLinkControl : ∀ {s}, P s → P (resetLinkControl s)

/-- A property that the elementary operations of the plan, the row pipeline and the touch guard keep. -/
structure KeptByPlantWork (P : State → Prop) : Prop where
  refreshRow : ∀ {s r}, r ∈ statusRows s ∨ r < rowCount s → P s → P (refreshRow s r)
  rebuildRow : ∀ {s r}, r < rowCount s → P s → P (rebuildRow s r)
  emptyPlan : ∀ {s}, P s → P (emptyPlan s)
  clearFaultMap : ∀ {s}, P s → P (clearFaultMap s)
  lookForRow : ∀ {s}, P s → P (lookForRow s)
  fence : ∀ {s}, P s → P (fence s)
  judgeHold : ∀ {s}, P s → P (judgeHold s)
  resetHold : ∀ {s} phase, P s → P (s.withTouch { s.touch with holdTime := 0, holdPhase := phase })
  holdLimit : ∀ {s}, P s → P (s.withTouch { s.touch with holdPhase := .expired, holdTime := holdLimitMs s })
  rotation : ∀ {s} n, P s → P (s.withTouch { s.touch with rotation := n })
  driftRestarts : ∀ {s}, Timer.due driftPeriod s.touch.driftTimer = true → P s →
    P (s.withTouch { s.touch with driftTimer := some 0 })
  guardEvent : ∀ {s} l {f}, GuardStep f → P s → P (guardEvent l f s)
  presenceExpires : ∀ {s} l, P s → P (changeLine l LineGuard.presenceExpires s)
  /-- R87: the step timer runs on, an earlier pulse being over. -/
  stepRestarts : ∀ {s}, Timer.due stepPeriod s.pipe.stepTimer = true → P s →
    P (s.withPipe { s.pipe with stepTimer := some 0, matrix := none })
  /-- R94, R76: the SENSE row taken out and recomputed. -/
  sensed : ∀ {s x} v, s.pipe.sense = some x → P s →
    P (recomputeRow x.row x.moves x.attempt v (s.withPipe { s.pipe with sense := none }))
  settleStage : ∀ {s}, s.pipe.sense = none → P s → P (settleStage s)
  strikeStage : ∀ {s}, s.pipe.settle = none → P s → P (strikeStage s)
  entersStrike : ∀ {s x}, s.pipe.load = some x → s.pipe.strike = none → P s →
    P (s.withPipe { s.pipe with load := none, strike := some x })
  fires : ∀ {s x}, s.pipe.strike = some x → canFire s x = true → P s →
    P (s.withPipe { s.pipe with strike := some { x with fired := true }, matrix := some ⟨x.row, x.moves, x.level⟩ })
  admits : ∀ {s}, s.pipe.engine = .running → P s → P (admitRow s)
  fenceLifts : ∀ {s}, slotsEmpty s = true → s.pipe.engine = .fenced → P s →
    P (s.withPipe { s.pipe with engine := .running })
  stops : ∀ {s}, slotsEmpty s = true → P s →
    P (startDrift (s.withPipe { s.pipe with engine := .idle, stepTimer := none }))

/-- A property that the work on a page keeps. -/
structure KeptByPageWork (P : State → Prop) : Prop where
  side : ∀ {s t}, SideStep s t → P s → P t
  queueWork : KeptByQueueWork P
  plantWork : KeptByPlantWork P
  /-- R147: the FAILED flags cleared and the guarded lines among them closed. -/
  clearStrips : ∀ {s}, P s → P (clearStrips s)

/-- A property that every elementary operation keeps, with the few that change the start-up block or the whole tile. -/
structure KeptByEvents (P : State → Prop) : Prop extends KeptByPageWork P where
  linkWork : KeptByLinkWork P
  queueWork := linkWork.toKeptByQueueWork
  /-- Work of the charge bank and the rail share. -/
  share : ∀ {s t}, Changes [.bank, .rail] s t → P s → P t
  powerOn : ∀ {s} straps, P s → P (powerOn straps s)
  holdReset : ∀ {s}, P s → P (holdReset s)
  endConfig : ∀ {s} memory strips, s.start.life = .config → P s → P (endConfig memory strips s)
  /-- R188: the life state becomes LISTENING, from SCAN or in a LINK reset. -/
  listening : ∀ {s}, s.start.life ≠ .config → s.start.life = .scan ∨ s.link.wait = none → P s → P ((s.withStart { s.start with life := .listening, joinTimer := some 0 }).withTouch
    { s.touch with driftTimer := none })
  enterJoined : ∀ {s}, Timer.due joinPeriod s.start.joinTimer = true → P s → P (enterJoined s)
  passTime : ∀ {s}, P s → P (passTime s)

section Page
variable (s : State)

/-- R61: nothing of the page reset's page work touches the page again, which is IDLE. -/
theorem pageReset_page : (pageReset s).page = (clearPage s).page := by
  have emptied : ∀ u : State, u.page = (clearPage s).page → (planNotices u).page = (clearPage s).page := by
    intro u hu
    rw [(workKept_planNotices u).page.2 (by rw [hu]; exact fun h => nomatch h), hu]
  unfold pageReset
  refine emptied _ ?_
  rw [(changes_refreshRows _ _).page, (changes_emptyPlan _).page, (changes_fence _).page]
  rfl

theorem resetLinkControl_page : (resetLinkControl s).page = s.page := rfl

/-- R138: emptying the view settles nothing where no page is WORKING. -/
theorem resetRailShare_link {s : State} (h : s.page.state ≠ .working) : (resetRailShare s).link = s.link :=
  ((workKept_recomputePattern (s.withRail { s.rail with view := [] })).link h).1

theorem changes_scanImage (x : Vector PinSet 24) : Changes [.shown] s (scanImage x s) :=
  Changes.foldl _ (fun t r => changes_senseRow r _ t) _ s

/-- R187: SHOWN as sensed, and TARGET its copy. -/
def copiedScan (x : Vector PinSet 24) (s : State) : State :=
  (scanImage x s).withPage { (scanImage x s).page with target := (scanImage x s).shown }

theorem finishScan_eq (x : Vector PinSet 24) : finishScan x s =
    enterListening (planNotices (refreshRows (statusRows (copiedScan x s)) (copiedScan x s))) := rfl

end Page

namespace KeptByPageWork
variable {P : State → Prop} (k : KeptByPageWork P) {s t : State}
include k

theorem announce (a : Half) (o : PageOutcome) (n : Nat) (h : P s) : P (announce a o n s) :=
  k.queueWork.enqueueAnnounce _ (k.side (.announced _ _ _) h)

theorem work : KeptByWork P where
  setPattern h := k.side .pattern h
  refreshRow hr h := k.plantWork.refreshRow hr h
  lookForRow h := k.plantWork.lookForRow h
  judgeHold h := k.plantWork.judgeHold h
  settled can h := k.announce _ _ _ (k.side (.settled _ _ (canSettle_iff.mp can).1) h)

theorem senseRow (r : Nat) (x : PinSet) (h : P s) : P (senseRow r x s) :=
  k.side (.sensed _ _) h

theorem startWork (h : P (workBegun s)) : P (startWork s) := by
  have fenced := k.plantWork.fence (k.work.setPattern (k.plantWork.resetHold
    (if holdCondition (workBegun s) then .running else .paused) h))
  exact k.work.settleCheck (k.work.planNotices (rebuildPlan_keeps k.plantWork.rebuildRow fenced))

theorem turnTaken (a : Half) (h : P s) : P (turnTaken a s) := k.startWork (k.side (.turned _) h)

theorem pageReset (h : P s) : P (pageReset s) := by
  have emptied := k.plantWork.emptyPlan (k.plantWork.fence (k.work.setPattern (k.plantWork.resetHold .inactive
    (k.side .cleared h))))
  exact k.work.planNotices (k.work.refreshRows (fun _ hr => .inl hr) emptied)

theorem takePage {a : Half} (m : Byte) (ha : a ≠ 0) (h : P s) : P (takePage a m s) := by
  unfold Machine.takePage
  split
  · exact k.queueWork.count _ h
  · rename_i hn
    have opened : P (openPage a m s) := k.side (.opened _ _ ha (Bool.not_eq_false _ ▸ hn)) h
    split
    · exact opened
    · split
      · exact opened
      · exact k.queueWork.count _ opened

theorem takeContent (a : Half) {q : Half} (l f : Byte) (cs : List Byte) (hq : q.toNat ≤ 4095) (h : P s) :
    P (takeContent a q l f cs s) := by
  unfold Machine.takeContent
  split
  · exact k.queueWork.count _ h
  · rename_i cur e ha
    split
    · exact k.queueWork.count _ h
    · split
      · rename_i heq
        exact k.side (.fragment _ _ _ _ _ (heq ▸ hq) ha) h
      · split <;> exact k.queueWork.count _ h

theorem turnElsewhere (a : Half) (h : P s) : P (turnElsewhere a s) := by
  unfold Machine.turnElsewhere
  split
  · unfold duplicateTurn
    split
    · exact k.announce _ _ _ h
    · split
      · exact k.announce _ _ _ h
      · exact h
    · exact h
  · split
    · exact k.announce _ _ _ h
    · exact k.queueWork.count _ h

theorem takeTurn (a n : Half) (h : P s) : P (takeTurn a n s) := by
  unfold Machine.takeTurn
  split
  · exact k.turnElsewhere _ h
  · split
    · exact k.turnElsewhere _ h
    · split
      · exact k.turnTaken _ h
      · exact k.announce _ _ _ h

theorem holdReport (m : Nat) (h : P s) : P (holdReport m s) := by
  unfold Machine.holdReport
  split
  · exact k.work.recomputePattern (k.announce _ _ _ (k.side (.held _) h))
  · exact h

/-! ### Queries -/

theorem clearAllFaults (h : P s) : P (clearAllFaults s) :=
  k.work.planNotices (k.work.refreshRows (fun _ hr => .inr (List.mem_range.mp hr))
    (k.clearStrips (k.plantWork.clearFaultMap h)))

theorem answerQuery (a b : Byte) (arg : List Byte) (h : P s) : P (answerQuery a b arg s) := by
  refine k.queueWork.enqueueReply _ ?_
  unfold queryAction
  split
  · exact k.startWork (k.side .flattened h)
  · exact k.clearAllFaults h
  · exact k.queueWork.zeroCounters h
  · exact h

/-! ### The step of the pipeline -/

theorem senseStage (x : PinSet) (h : P s) : P (senseStage x s) := by
  unfold Machine.senseStage
  split
  · exact h
  · rename_i y hy
    exact k.work.planNotices (k.plantWork.sensed (s := Machine.senseRow y.row x s) _ hy (k.senseRow _ _ h))

theorem engineCheck (h : P s) : P (engineCheck s) := by
  have idle (he : slotsEmpty s = true) : P (becomeIdle s) := k.work.settleCheck (k.plantWork.stops he h)
  unfold Machine.engineCheck
  split
  · rename_i he
    split
    · rename_i hf
      split
      · exact k.plantWork.admits rfl (k.plantWork.fenceLifts he hf h)
      · exact idle he
    · exact idle he
    · exact h
  · exact h

end KeptByPageWork

namespace KeptByEvents
variable {P : State → Prop} (k : KeptByEvents P) {s t : State}
include k

theorem withRail (x : RailShare) (h : P s) : P (s.withRail x) := k.share ((changes_withRail _ _).mono (by decide)) h

theorem withBank (x : Bank) (h : P s) : P (s.withBank x) := k.share ((changes_withBank _ _).mono (by decide)) h

theorem judgeRise (h : P s) : P (judgeRise s) := k.share ((changes_judgeRise _).mono (by decide)) h

theorem recomputeAllowance (h : P s) : P (recomputeAllowance s) :=
  k.share ((changes_recomputeAllowance _).mono (by decide)) h

/-! ### Queries, the view and RESET frames -/

theorem takeSettled (a : Byte) (b : Half) (o : Byte) (h : P s) : P (takeSettled a b o s) := by
  unfold Machine.takeSettled
  split
  · exact k.work.recomputePattern (k.withRail _ h)
  · exact h

theorem takeDraw (a d : Byte) (b : Half) (o : Byte) (h : P s) : P (takeDraw a d b o s) :=
  k.recomputeAllowance (k.work.recomputePattern (k.withRail _ h))

theorem expireEntry (a : Byte) (h : P s) : P (expireEntry a s) := by
  unfold Machine.expireEntry
  split
  · exact k.recomputeAllowance (k.work.recomputePattern (k.withRail _ h))
  · exact h

theorem enterListening (hc : s.start.life ≠ .config) (hw : s.start.life = .scan ∨ s.link.wait = none) (h : P s) :
    P (enterListening s) :=
  k.plantWork.lookForRow (k.recomputeAllowance (k.linkWork.enqueueAnnounce _ (k.withRail _ (k.withBank _
    (k.listening hc hw h)))))

theorem linkReset (ho : onTheLink s = true) (h : P s) : P (linkReset s) := by
  have cleared : P (resetRailShare (resetLinkControl (Machine.pageReset s))) :=
    k.withRail _ (k.work.recomputePattern (k.withRail _ (k.linkWork.resetLinkControl (k.pageReset h))))
  have start : (resetRailShare (resetLinkControl (Machine.pageReset s))).start = s.start :=
    (changes_resetRailShare _).start.trans (changes_pageReset s).start
  have wait : (resetRailShare (resetLinkControl (Machine.pageReset s))).link.wait = none := by
    rw [resetRailShare_link (by rw [resetLinkControl_page, pageReset_page]; exact fun h => nomatch h)]
    rfl
  unfold Machine.linkReset
  generalize resetRailShare (resetLinkControl (Machine.pageReset s)) = u at cleared start wait
  refine k.enterListening ?_ (.inr wait) (k.plantWork.rotation _ (k.withBank _ cleared))
  intro hl
  have config : s.start.life = .config := by rw [← start]; exact hl
  simp [onTheLink, config] at ho

theorem delivery (ho : onTheLink s = true) (d : Delivery s t) (h : P s) : P t := by
  cases d with
  | page _ _ hs => exact k.takePage _ hs h
  | content _ _ _ _ _ hq => exact k.takeContent _ _ _ _ hq h
  | turn => exact k.takeTurn _ _ h
  | settled => exact k.takeSettled _ _ _ h
  | draw => exact k.takeDraw _ _ _ _ h
  | query => exact k.answerQuery _ _ _ h
  | pageReset => exact k.pageReset h
  | linkReset => exact k.linkReset ho h
  | nothing => exact h

/-! ### The bank and the line -/

theorem announceDemand (h : P s) : P (announceDemand s) := by
  unfold Machine.announceDemand
  split
  · exact h
  · exact k.linkWork.enqueueAnnounce _ h

theorem updateDemand (h : P s) : P (updateDemand s) := by
  unfold Machine.updateDemand
  dsimp only
  split
  · exact h
  · exact k.recomputeAllowance (k.announceDemand (k.withBank _ h))

theorem tryFire (h : P s) : P (tryFire s) := by
  unfold Machine.tryFire
  split
  · exact h
  · rename_i x hx
    split
    · rename_i hf
      exact k.updateDemand (k.withBank _ (k.plantWork.fires hx hf h))
    · exact h

theorem collide {o : OnLine} (ho : s.link.onLine = some o) (hp : o.phase = .sending) (h : P s) : P (collide o s) := by
  have collided := k.linkWork.collided ho hp h
  unfold Machine.collide
  dsimp only
  split
  · exact k.announceDemand (k.judgeRise collided)
  · exact collided

theorem completeAttempt {o : OnLine} (ho : s.link.onLine = some o) (hp : o.phase = .sending) (h : P s) :
    P (completeAttempt o s) := by
  have completed := k.linkWork.completed ho hp h
  unfold Machine.completeAttempt
  dsimp only
  split
  · exact completed
  · exact k.announceDemand (k.judgeRise (k.withBank _ completed))

theorem cutOff (h : P s) : P (cutOff s) := by
  unfold Machine.cutOff
  split
  · exact h
  · rename_i o ho
    split
    · exact k.linkWork.endJam ho h
    · rename_i hp
      exact k.linkWork.released (k.collide ho hp h)

theorem lineComesUp (h : P s) : P (lineComesUp s) := by
  unfold Machine.lineComesUp
  split
  · exact h
  · rename_i hup
    exact k.linkWork.tryContend (k.work.recomputePattern (k.recomputeAllowance
      (k.linkWork.lineUp (by simpa using hup) h)))

theorem lineGoesDown (h : P s) : P (lineGoesDown s) := by
  unfold Machine.lineGoesDown
  split
  · exact k.work.recomputePattern (k.recomputeAllowance (k.linkWork.lineDown (k.cutOff h)))
  · exact h

end KeptByEvents

/-- R93: SENSE is empty after its stage: the notices do not fill it. -/
theorem senseStage_sense (x : PinSet) (s : State) : (senseStage x s).pipe.sense = none := by
  have keptByNotices : KeptByWork (fun t => t.pipe.sense = none) := by
    refine ⟨fun h => h, fun _ h => ?_, fun {s} h => ?_, fun {s} h => ?_, fun {s} _ h => ?_⟩
    · rw [(changes_refreshRow _ _).pipe]; exact h
    · unfold lookForRow
      split
      · unfold stopDrift admitRow
        split
        · split <;> exact h
        · exact h
      · exact h
    · rw [(changes_judgeHold s).pipe]; exact h
    · rw [(changes_settledAndAnnounced (s := s)).pipe]; exact h
  unfold senseStage
  split
  · assumption
  · refine keptByNotices.planNotices ?_
    rw [(changes_recomputeRow _ _ _ _ _).pipe]
    rfl

/-- R152: the drift scan chooses a line of the rectangle. -/
theorem driftLine_lt {s : State} {l : Nat} (h : driftLine s = some l) : l < lineCount s := by
  obtain ⟨i, hi, rfl⟩ := List.mem_map.mp (List.mem_of_find?_eq_some h)
  exact Nat.mod_lt _ (by have := List.mem_range.mp hi; omega)

theorem settleStage_settle (s : State) : (settleStage s).pipe.settle = none := by
  unfold settleStage
  split
  · assumption
  · rfl

namespace KeptByPageWork
variable {P : State → Prop} (k : KeptByPageWork P) {s t : State}
include k

theorem senseLine (l : Nat) (a b c d : PinSet) (h : P s) : P (senseLine l a b c d s) :=
  k.senseRow _ _ (k.senseRow _ _ (k.senseRow _ _ (k.senseRow _ _ h)))

theorem scanLine {l : Nat} (hl : l < lineCount s) (a b c d : PinSet) (h : P s) : P (scanLine l a b c d s) := by
  have sensed := k.senseLine l a b c d (k.plantWork.rotation ((l + 1) % lineCount s) h)
  unfold Machine.scanLine
  dsimp only
  refine k.work.planNotices (k.work.refreshRows (fun r hr => .inr ?_) sensed)
  have rows : rowCount (Machine.senseLine l a b c d
      (s.withTouch { s.touch with rotation := (l + 1) % lineCount s })) = 4 * lineCount s := rfl
  rw [rows]
  simp only [List.mem_cons, List.not_mem_nil, or_false] at hr
  omega

theorem driftExpires (a b c d : PinSet) (h : P s) : P (driftExpires a b c d s) := by
  unfold Machine.driftExpires
  split
  · rename_i hd
    have restarted := k.plantWork.driftRestarts hd h
    dsimp only
    split
    · exact restarted
    · rename_i l hl
      exact k.scanLine (driftLine_lt hl) _ _ _ _ restarted
  · exact h

theorem stripFails (l : Nat) (h : P s) : P (stripFails l s) := by
  unfold Machine.stripFails
  split
  · have failed := k.work.recomputePattern (k.plantWork.presenceExpires l h)
    dsimp only
    split
    · exact k.work.lineOpens failed
    · exact failed
  · exact h

theorem holdExpires (h : P s) : P (holdExpires s) := by
  unfold Machine.holdExpires
  split
  · exact k.holdReport _ (k.plantWork.holdLimit h)
  · exact h

/-- R187: the initial scan with its notices, before LISTENING is entered. -/
theorem scanTaken (x : Vector PinSet 24) (h : P s) :
    P (planNotices (refreshRows (statusRows (copiedScan x s)) (copiedScan x s))) := by
  have scanned : P (scanImage x s) := by
    unfold scanImage
    exact List.foldlRecOn (motive := P) _ _ h fun t ht r _ => k.senseRow r _ ht
  exact k.work.planNotices (k.work.refreshRows (fun _ hr => .inl hr) (k.side .copied scanned))

end KeptByPageWork

namespace KeptByEvents
variable {P : State → Prop} (k : KeptByEvents P) {s t : State}
include k

theorem loadStage (h : P s) : P (loadStage s) := by
  unfold Machine.loadStage
  split
  · rename_i x hl hs
    exact k.tryFire (k.plantWork.entersStrike hl hs h)
  · exact h

theorem runStep (x : PinSet) (h : P s) : P (runStep x s) := by
  have moved := k.loadStage (k.plantWork.strikeStage (settleStage_settle _)
    (k.plantWork.settleStage (senseStage_sense x s) (k.senseStage x h)))
  unfold Machine.runStep
  refine k.engineCheck ?_
  unfold admissionStage
  split
  · rename_i hr
    exact k.plantWork.admits hr moved
  · exact moved

theorem stepExpires (x : PinSet) (h : P s) : P (stepExpires x s) := by
  unfold Machine.stepExpires
  split
  · rename_i hd
    exact k.runStep x (k.plantWork.stepRestarts hd h)
  · exact h

theorem railExpires (h : P s) : P (railExpires s) := by
  unfold Machine.railExpires
  split
  · dsimp only
    split
    · exact k.withBank _ h
    · exact k.tryFire (k.updateDemand (k.withBank _ h))
  · exact h

theorem finishScan (x : Vector PinSet 24) (hl : s.start.life = .scan) (h : P s) : P (finishScan x s) := by
  have life : (planNotices (Machine.refreshRows (statusRows (copiedScan x s)) (copiedScan x s))).start.life = .scan := by
    rw [(changes_planNotices _).start, (changes_refreshRows _ _).start]
    exact (congrArg StartUp.life (changes_scanImage s x).start).trans hl
  rw [finishScan_eq]
  exact k.enterListening (by rw [life]; decide) (.inl life) (k.scanTaken x h)

/-- Every event keeps what the elementary operations keep. -/
theorem event (e : Event s t) (h : P s) : P t := by
  cases e with
  | nothing => exact h
  | powerOn straps => exact k.powerOn straps h
  | holdReset => exact k.holdReset h
  | endConfig memory strips hl => exact k.endConfig memory strips hl h
  | finishScan sensed hl => exact k.finishScan sensed hl h
  | enterJoined hd => exact k.enterJoined hd h
  | lineBusy => exact k.linkWork.lineBusy h
  | counted c => exact k.linkWork.count c (k.linkWork.lineBusy h)
  | clash => exact k.linkWork.noteClash (k.linkWork.lineBusy h)
  | delivered ho d => exact k.delivery (s := Machine.lineBusy s) ho d (k.linkWork.lineBusy h)
  | quietGap => exact k.linkWork.quietGapEnds h
  | slot => exact k.linkWork.beginAttempt h
  | collision o ho hp => exact k.collide ho hp h
  | jamEnd o ho hp => exact k.linkWork.endJam ho h
  | completes o ho hp => exact k.completeAttempt ho hp h
  | linkUp => exact k.lineComesUp h
  | linkDown => exact k.lineGoesDown h
  | stepTimer sensed => exact k.stepExpires sensed h
  | railTimer => exact k.railExpires h
  | refreshTimer =>
    unfold refreshExpires
    split
    · exact k.linkWork.enqueueAnnounce _ (k.withRail _ h)
    · exact h
  | riseTimer =>
    unfold riseExpires
    split
    · exact h
    · split
      · exact h
      · split
        · exact k.withRail _ h
        · exact h
  | entry station => exact k.expireEntry station h
  | guard l hf => exact k.plantWork.guardEvent l hf h
  | strip l => exact k.stripFails l h
  | holdLimit => exact k.holdExpires h
  | drift r0 r1 r2 r3 => exact k.driftExpires _ _ _ _ h
  | time => exact k.passTime h

end KeptByEvents

/-! ### Properties of one of the two groups of blocks -/

/-- R147: the FAILED flags cleared, for a property that neither the flags nor the closings break. -/
theorem clearStrips_keeps {P : State → Prop} (work : KeptByWork P)
    (cleared : ∀ {s}, P s → P (s.withTouch { s.touch with lines := s.touch.lines.map LineGuard.clearFailed }))
    (closes : ∀ {s} l, P s → P (lineCloses l s)) {s : State} (h : P s) : P (clearStrips s) := by
  unfold clearStrips
  split
  · have done := work.recomputePattern (cleared h)
    generalize recomputePattern _ = t at done
    induction reclosedLines s generalizing t with
    | nil => exact done
    | cons l ls ih => exact ih _ (closes l done)
  · exact h

/-- A property that reads nothing of the link controller. -/
theorem keptByLinkWork_of_changes {P : State → Prop} (keep : ∀ {s t}, Changes [.link, .draws] s t → P s → P t) :
    KeptByLinkWork P where
  count _ := keep ((changes_count _ _).mono (by decide))
  enqueueReply _ := keep (changes_enqueueReply _ _)
  enqueueAnnounce _ := keep (changes_enqueueAnnounce _ _)
  tryContend := keep (changes_tryContend _)
  lineBusy := keep ((changes_lineBusy _).mono (by decide))
  noteClash := keep (((changes_withLink _ _).trans (changes_count _ _)).mono (by decide))
  zeroCounters := keep ((changes_withLink _ _).mono (by decide))
  quietGapEnds := keep (changes_quietGapEnds _)
  beginAttempt := keep ((changes_beginAttempt _).mono (by decide))
  endJam _ := keep ((changes_endJam _ _).mono (by decide))
  collided _ _ := keep (((changes_count _ _).trans (changes_withLink _ _)).mono (by decide))
  completed _ _ := keep ((changes_withLink _ _).mono (by decide))
  released := keep ((changes_withLink _ _).mono (by decide))
  lineUp _ := keep ((changes_withLink _ _).mono (by decide))
  lineDown := keep ((changes_withLink _ _).mono (by decide))
  resetLinkControl := keep ((changes_withLink _ _).mono (by decide))

/-- A property that reads nothing of the plan, the pipeline and the touch guard. -/
theorem keptByPlantWork_of_changes {P : State → Prop} (keep : ∀ {s t}, Changes [.plan, .pipe, .touch] s t → P s → P t) :
    KeptByPlantWork P where
  refreshRow _ := keep ((changes_refreshRow _ _).mono (by decide))
  rebuildRow _ := keep ((changes_rebuildRow _ _).mono (by decide))
  emptyPlan := keep ((changes_emptyPlan _).mono (by decide))
  clearFaultMap := keep ((changes_clearFaultMap _).mono (by decide))
  lookForRow := keep ((changes_lookForRow _).mono (by decide))
  fence := keep ((changes_fence _).mono (by decide))
  judgeHold := keep ((changes_judgeHold _).mono (by decide))
  resetHold _ := keep ((changes_withTouch _ _).mono (by decide))
  holdLimit := keep ((changes_withTouch _ _).mono (by decide))
  rotation _ := keep ((changes_withTouch _ _).mono (by decide))
  driftRestarts _ := keep ((changes_withTouch _ _).mono (by decide))
  guardEvent _ _ _ := keep ((changes_guardEvent _ _ _).mono (by decide))
  presenceExpires _ := keep ((changes_withTouch _ _).mono (by decide))
  stepRestarts _ := keep ((changes_withPipe _ _).mono (by decide))
  sensed _ _ := keep ((changes_withPipe _ _).comp (changes_recomputeRow _ _ _ _ _))
  settleStage _ := keep ((changes_settleStage _).mono (by decide))
  strikeStage _ := keep ((changes_strikeStage _).mono (by decide))
  entersStrike _ _ := keep ((changes_withPipe _ _).mono (by decide))
  fires _ _ := keep ((changes_withPipe _ _).mono (by decide))
  admits _ := keep ((changes_admitRow _).mono (by decide))
  fenceLifts _ _ := keep ((changes_withPipe _ _).mono (by decide))
  stops _ := keep ((changes_withPipe _ _).comp (changes_startDrift _))

end Sys2Proof.Machine
end

section
/-!
The queue of commands and time: each command answers a next state, keeps the commands that wait and never lowers the
count of draws; an idle step lets 1 ms pass.
-/

namespace Sys2Proof.Machine

section Queue
variable {s t : State} {q : List Instr} {d : Nat}

/-- The waiting commands are `q`, and at least `d` slots have been drawn. -/
def QueueKept (q : List Instr) (d : Nat) (t : State) : Prop := t.pending = q ∧ d ≤ t.draws

theorem QueueKept.of_changes {bs : List Block} (h : QueueKept q d s) (c : Changes bs s t)
    (hp : Block.pending ∉ bs := by decide) (hd : Block.draws ∉ bs := by decide) : QueueKept q d t :=
  ⟨(c.pending hp).trans h.1, (c.draws hd).symm ▸ h.2⟩

theorem QueueKept.tryContend (h : QueueKept q d s) : QueueKept q d (tryContend s) := by
  obtain ⟨hp, hd⟩ := h
  refine ⟨(changes_tryContend s).pending.trans hp, ?_⟩
  rw [tryContend_draws]
  split <;> omega

theorem QueueKept.joinTail (f : QFrame) (h : QueueKept q d s) : QueueKept q d (joinTail f s) :=
  (h.of_changes (changes_withLink _ _)).tryContend

theorem queueKept_linkWork : KeptByLinkWork (QueueKept q d) where
  count _ h := h.of_changes (changes_count _ _)
  enqueueReply _ h := by
    unfold enqueueReply
    split
    · exact h.of_changes (changes_count _ _)
    · exact h.joinTail _
  enqueueAnnounce _ h := by
    unfold enqueueAnnounce
    split
    · exact h.of_changes (changes_renewQueued _ _)
    · split
      · exact h.joinTail _
      · exact (h.of_changes (changes_makeRoom _)).joinTail _
  tryContend h := h.tryContend
  lineBusy h := h.of_changes (changes_lineBusy _)
  noteClash h := h.of_changes ((changes_withLink _ _).trans (changes_count _ _))
  zeroCounters h := h.of_changes (changes_withLink _ _)
  quietGapEnds h := by
    unfold quietGapEnds
    split
    · exact h
    · exact (h.of_changes (changes_withLink _ _)).tryContend
  beginAttempt h := h.of_changes (changes_beginAttempt _)
  endJam _ h := h.of_changes (changes_endJam _ _)
  collided _ _ h := h.of_changes ((changes_count _ _).trans (changes_withLink _ _))
  completed _ _ h := h.of_changes (changes_withLink _ _)
  released h := h.of_changes (changes_withLink _ _)
  lineUp _ h := h.of_changes (changes_withLink _ _)
  lineDown h := h.of_changes (changes_withLink _ _)
  resetLinkControl h := h.of_changes (changes_withLink _ _)

theorem queueKept_events : KeptByEvents (QueueKept q d) where
  side c h := h.of_changes c.changes
  share c h := h.of_changes c
  linkWork := queueKept_linkWork
  plantWork := keptByPlantWork_of_changes fun c h => h.of_changes c
  clearStrips := by
    refine clearStrips_keeps ?_ (fun h => h.of_changes (changes_withTouch _ _))
      fun l h => h.of_changes (changes_lineCloses l _)
    exact keptByWork_of_settled (fun c _ h => h.of_changes c) fun _ h =>
      queueKept_linkWork.enqueueAnnounce _ (h.of_changes (changes_withPage _ _))
  powerOn _ h := h
  holdReset h := h
  endConfig _ _ _ h := h
  listening _ _ h := h
  enterJoined _ h :=
    (((h.of_changes (changes_withStart _ _)).tryContend.of_changes (changes_recomputeAllowance _)).of_changes
      (changes_judgeRise _)).of_changes (changes_startDrift _)
  passTime h := h.of_changes (changes_passTime _)

theorem whenRunning_total (f : State → State) : ∃ t, whenRunning s f = .next t := ⟨_, rfl⟩

/-- R182, log 18: no command faults or is refused. -/
theorem exec_total (c : Instr) : ∃ t, exec c s = .next t := by
  cases c <;> exact ⟨_, rfl⟩

end Queue

/-! ### The obligations -/

/-- Settles O1. -/
theorem stepRunsTheFrontCommand : Obligations.StepRunsTheFrontCommand := by
  unfold Obligations.StepRunsTheFrontCommand
  intro c rest s h
  rw [step, h]

/-- Settles O2: every command is an event, and events keep the queue and never lower the draws. -/
theorem everyCommandAnswersANextState : Obligations.EveryCommandAnswersANextState := by
  unfold Obligations.EveryCommandAnswersANextState
  intro c s
  obtain ⟨t, ht⟩ := exec_total (s := s) c
  obtain ⟨hp, hd⟩ : QueueKept s.pending s.draws t := queueKept_events.event (exec_event c ht) ⟨rfl, le_rfl⟩
  exact ⟨t, ht, hp, hd⟩

/-- Settles O3. -/
theorem idleStepPassesOneMillisecond : Obligations.IdleStepPassesOneMillisecond := by
  unfold Obligations.IdleStepPassesOneMillisecond
  intro s hnone
  have step_idle : step s = .next (idle s) := by rw [step, hnone]
  refine ⟨fun held => by rw [step_idle, idle, if_pos held], fun running => ⟨passTime s, ?_, changes_passTime s, ?_⟩⟩
  · rw [step_idle, idle, if_neg (by simpa [Running] using running)]
  · refine ⟨rfl, rfl, rfl, rfl, rfl, rfl, ?_, ?_, fun r hr => ?_, fun hr => ?_, rfl, rfl, rfl, rfl, ?_, fun l g hg => ?_⟩
    · simp [passTime, Function.comp_def]
    · simp [passTime, Function.comp_def]
    · refine ⟨Rise.tick r, by simp [passTime, hr], ?_⟩
      cases hp : r.phase with
      | held => simp [Rise.tick, hp]
      | settling n => simp [Rise.tick, hp, settlePeriod]
    · simp [passTime, hr]
    · simp [passTime]
    · simp only [passTime, State.withTouch_touch, List.getElem?_map, hg]
      rfl

end Sys2Proof.Machine
end

section
/-!
Power and the reset pin (R182): every block at its power-on value, and the invariants that these values meet.
-/

namespace Sys2Proof.Machine

section Reset
variable {s : State}

@[simp] theorem jobAt_powerOn (straps : BitVec 5) (r : Nat) : jobAt (powerOn straps s) r = none := by
  simp [jobAt, powerOn, State.reset, Vector.getElem?_replicate]
  split <;> rfl

theorem planEmpty_reset : planEmpty State.reset = true := by decide

theorem jobAt_reset (r : Nat) : jobAt State.reset r = none := planEmpty_iff.mp planEmpty_reset r

/-- R182: a command that is not about power finds the part stopped. -/
theorem exec_of_resetHeld {c : Instr} (hc : ∀ straps, c ≠ .powerOn straps ∧ c ≠ .resetPinReleased straps)
    (hne : c ≠ .resetPinAsserted) (hs : s.resetHeld = true) : exec c s = .next s := by
  have stopped (f : State → State) : whenRunning s f = .next s := by rw [whenRunning, if_pos hs]
  cases c with
  | powerOn straps => exact absurd rfl (hc straps).1
  | resetPinReleased straps => exact absurd rfl (hc straps).2
  | resetPinAsserted => exact absurd rfl hne
  | _ => exact stopped _

/-- R182, log 3: asserting a pin that is held changes nothing more. -/
theorem holdReset_holdReset : holdReset (holdReset s) = holdReset s := rfl

end Reset

/-! ### The obligations -/

/-- Settles O4. -/
theorem powerOnGivesEveryBlockItsPowerOnValue : Obligations.PowerOnGivesEveryBlockItsPowerOnValue := by
  unfold Obligations.PowerOnGivesEveryBlockItsPowerOnValue
  intro c straps s hc
  refine ⟨powerOn straps s, by obtain rfl | rfl := hc <;> rfl, rfl, rfl, rfl, rfl, rfl, rfl, jobAt_powerOn straps, ?_⟩
  exact ⟨rfl, rfl, rfl, rfl, rfl, rfl, rfl⟩

/-- Settles O5: the part held in reset stays as it is, the pin's own assertion included. -/
theorem resetPinStopsThePart : Obligations.ResetPinStopsThePart := by
  unfold Obligations.ResetPinStopsThePart
  intro s
  refine ⟨holdReset s, rfl, rfl, rfl, rfl, rfl, rfl, rfl, rfl, rfl, rfl, rfl, rfl, rfl, rfl, rfl, rfl, rfl, rfl, rfl,
    rfl, fun c hc => ?_, fun hnone => ?_⟩
  · by_cases hne : c = .resetPinAsserted
    · subst hne
      exact congrArg Host.Outcome.next (holdReset_holdReset (s := s))
    · exact exec_of_resetHeld hc hne rfl
  · rw [step, hnone]
    rfl

/-- Settles O60: nothing stands in the queue, the view, the plan or the pipeline, and every timer is stopped. -/
theorem resetMeetsEveryInvariant : Obligations.ResetMeetsEveryInvariant := by
  unfold Obligations.ResetMeetsEveryInvariant
  have counters : CountersOk State.reset := by
    show ∀ n ∈ Counters.list Counters.zero, n ≤ 65535
    decide
  have noWork : BeforeListeningOk State.reset :=
    fun _ => ⟨rfl, rfl, rfl, planEmpty_reset, rfl, rfl, rfl, rfl, rfl, rfl⟩
  have plan : PlanOk State.reset := by
    refine ⟨fun r j h => ?_, fun _ => planEmpty_reset⟩
    rw [jobAt_reset] at h
    cases h
  have slots : SlotsOk State.reset := by
    have empty {x : Slot} (h : (none : Option Slot) = some x) : False := (nomatch h)
    refine ⟨fun _ => rfl, fun _ => rfl, fun x h => (empty h).elim, fun x h => (empty h).elim,
      fun x h => (empty h).elim, fun h => (nomatch h), List.nodup_nil, fun x h => (empty h).elim,
      fun x h => (empty h).elim, fun x h => ?_⟩
    simp [State.reset] at h
  refine ⟨⟨by decide, by decide, by decide⟩, ⟨by decide, by decide, by decide, by decide, fun k h => (nomatch h)⟩,
    fun o h => (nomatch h), counters, ⟨by decide, by decide, fun c h => (nomatch h)⟩, ⟨by decide, by decide⟩, noWork,
    ⟨by decide, List.nodup_nil, fun e he => (nomatch he), List.Pairwise.nil, fun _ => rfl⟩,
    ⟨le_rfl, by decide, fun r h => (nomatch h), fun _ c h => (nomatch h), fun h => (nomatch h), fun h => (nomatch h),
      fun _ => rfl⟩, ⟨rfl, rfl, rfl, rfl, rfl⟩, fun serial e h => (nomatch h), ⟨fun _ => rfl, fun h => (nomatch h)⟩,
    plan, ⟨rfl, fun _ => rfl⟩, fun h => (nomatch h), ⟨by decide, by decide⟩, slots, fun g h => (nomatch h), le_rfl⟩

end Sys2Proof.Machine
end

section
/-!
The link controller's invariant (R25 to R27, R30, R32, R35, R37): each of its elementary operations keeps it, so every
event does.
-/

namespace Sys2Proof.Machine

section Link
variable {s t : State} {o : OnLine}

/-! ### Counters and frames -/

theorem bump_le {n : Nat} (h : n ≤ 65535) : bump n ≤ 65535 := by
  unfold bump
  split <;> omega

theorem counters_inc_le {c : Counters} (k : Counter) (h : ∀ n ∈ Counters.list c, n ≤ 65535) :
    ∀ n ∈ Counters.list (c.inc k), n ≤ 65535 := by
  cases k <;> simp_all [Counters.inc, Counters.list, bump_le]

theorem bodyOfFrame_frameBody (f : QFrame) : bodyOfFrame f (frameBody s f) := by
  cases f with
  | reply r => rfl
  | announce k _ => cases k <;> rfl

theorem bodyOfFrame_marked {f : QFrame} {b : Body} (h : bodyOfFrame f b) : bodyOfFrame f.marked b := by
  cases f with
  | reply r => exact h
  | announce k _ => cases k <;> exact h

theorem bodyOfFrame_unmarked {f : QFrame} {b : Body} (h : bodyOfFrame f b) : bodyOfFrame f.unmarked b := by
  cases f with
  | reply r => exact h
  | announce k _ => cases k <;> exact h

@[simp] theorem isAnnounce_marked (k : Announce) (f : QFrame) : f.marked.isAnnounce k = f.isAnnounce k := by
  cases f <;> rfl

@[simp] theorem isAnnounce_unmarked (k : Announce) (f : QFrame) : f.unmarked.isAnnounce k = f.isAnnounce k := by
  cases f <;> rfl

@[simp] theorem announceCount_cons (k : Announce) (f : QFrame) (q : List QFrame) :
    announceCount k (f :: q) = announceCount k q + if f.isAnnounce k then 1 else 0 := List.countP_cons

@[simp] theorem announceCount_nil (k : Announce) : announceCount k [] = 0 := rfl

@[simp] theorem announceCount_append (k : Announce) (p q : List QFrame) :
    announceCount k (p ++ q) = announceCount k p + announceCount k q := List.countP_append

theorem announceCount_eq_zero {k : Announce} {q : List QFrame} (h : ¬ q.any (QFrame.isAnnounce k) = true) :
    announceCount k q = 0 := by
  simpa [announceCount, List.countP_eq_zero] using h

/-- A frame is a REPLY, a DRAW or a SETTLED. -/
theorem length_eq_counts (q : List QFrame) :
    q.length = q.countP QFrame.isReply + announceCount .draw q + announceCount .settled q := by
  induction q with
  | nil => rfl
  | cons f q ih =>
    cases f with
    | reply r => simp [ih, List.countP_cons, QFrame.isReply, QFrame.isAnnounce]; omega
    | announce k _ => cases k <;> simp [ih, QFrame.isReply, QFrame.isAnnounce] <;> omega

/-! ### A queue's rules, in its frames alone -/

/-- R30: at most one DRAW and one SETTLED. -/
def KindsOk (q : List QFrame) : Prop := ∀ k, announceCount k q ≤ 1

theorem announceCount_mapHead {f : QFrame → QFrame} (hf : ∀ k x, (f x).isAnnounce k = x.isAnnounce k) (k : Announce)
    (q : List QFrame) : announceCount k (mapHead f q) = announceCount k q := by
  cases q with
  | nil => rfl
  | cons x q => simp [mapHead, hf]

@[simp] theorem length_mapHead (f : QFrame → QFrame) (q : List QFrame) : (mapHead f q).length = q.length := by
  cases q <;> rfl

theorem KindsOk.of_le {p q : List QFrame} (h : KindsOk q) (hp : ∀ k, announceCount k p ≤ announceCount k q) : KindsOk p :=
  fun k => (hp k).trans (h k)

theorem announceCount_sublist {k : Announce} {p q : List QFrame} (h : p.Sublist q) :
    announceCount k p ≤ announceCount k q := h.countP_le

theorem dropFirstReply_sublist (q : List QFrame) : (dropFirstReply q).Sublist q := by
  induction q with
  | nil => exact .slnil
  | cons f q ih =>
    cases f with
    | reply r => exact List.sublist_cons_self _ _
    | announce k b => exact ih.cons_cons _

/-- The queue is cut at its first REPLY. -/
theorem dropFirstReply_split {q : List QFrame} (h : 0 < q.countP QFrame.isReply) :
    ∃ pre r post, q = pre ++ .reply r :: post ∧ dropFirstReply q = pre ++ post ∧ ∀ f ∈ pre, f.isReply = false := by
  induction q with
  | nil => simp at h
  | cons f q ih =>
    cases f with
    | reply r => exact ⟨[], r, q, rfl, rfl, by simp⟩
    | announce k b =>
      obtain ⟨pre, r, post, hq, hdrop, hpre⟩ := ih (by simpa [QFrame.isReply] using h)
      refine ⟨.announce k b :: pre, r, post, by rw [hq]; rfl, by simp [dropFirstReply, hdrop], ?_⟩
      simpa [QFrame.isReply] using hpre

theorem dropOldestReply_sublist (b : Bool) (q : List QFrame) : (dropOldestReply b q).Sublist q := by
  cases q with
  | nil => exact .slnil
  | cons f q =>
    cases b with
    | false => exact dropFirstReply_sublist _
    | true => exact (dropFirstReply_sublist q).cons_cons _

/-- R30: a queue that is full and keeps its kinds has a REPLY behind its head to take out. -/
theorem dropOldestReply_split {q : List QFrame} (onLine : Bool) (hq : KindsOk q) (full : queueLimit ≤ q.length) :
    ∃ pre r post, q = pre ++ .reply r :: post ∧ dropOldestReply onLine q = pre ++ post ∧
      (∀ i f, pre[i]? = some f → f.isReply = true → i = 0 ∧ onLine = true) ∧ (pre = [] → onLine = false) := by
  have draw := hq .draw
  have settled := hq .settled
  have counts := length_eq_counts q
  unfold queueLimit at full
  cases q with
  | nil => simp at full
  | cons h q =>
    cases onLine with
    | false =>
      obtain ⟨pre, r, post, hq, hdrop, hpre⟩ := dropFirstReply_split (q := h :: q) (by omega)
      refine ⟨pre, r, post, hq, hdrop, fun i f hi hf => ?_, fun _ => rfl⟩
      rw [hpre f (List.mem_of_getElem? hi)] at hf
      cases hf
    | true =>
      have countHead : (h :: q).countP QFrame.isReply ≤ q.countP QFrame.isReply + 1 := by
        rw [List.countP_cons]; split <;> omega
      obtain ⟨pre, r, post, hq, hdrop, hpre⟩ := dropFirstReply_split (q := q) (by omega)
      refine ⟨h :: pre, r, post, by rw [hq]; rfl, by simp [dropOldestReply, hdrop], fun i f hi hf => ?_, by simp⟩
      cases i with
      | zero => exact ⟨rfl, rfl⟩
      | succ i =>
        rw [hpre f (List.mem_of_getElem? (by simpa using hi))] at hf
        cases hf

theorem dropOldestReply_length {q : List QFrame} (onLine : Bool) (hq : KindsOk q) (full : queueLimit ≤ q.length) :
    (dropOldestReply onLine q).length + 1 = q.length := by
  obtain ⟨pre, r, post, hq, hdrop, _⟩ := dropOldestReply_split onLine hq full
  rw [hdrop, hq]
  simp
  omega

/-! ### The rules, from the link controller alone -/

/-- R27, R30, R32, R37: what an attempt on the line says of the queue. -/
def Carries (o : OnLine) (q : List QFrame) : Prop :=
  (o.phase = .sending → o.holdsHead = true) ∧ (o.holdsHead = true → q ≠ []) ∧ (o.preReset = true → o.holdsHead = true) ∧
    ∀ f q', q = f :: q' → o.holdsHead = true → bodyOfFrame f o.body

/-- R26, R27, R30, R32, R35: the rules that the link controller alone decides. -/
structure LinkRules (l : Link) : Prop where
  length : l.queue.length ≤ queueLimit
  kinds : KindsOk l.queue
  attempt : 1 ≤ l.attempt ∧ l.attempt ≤ 10
  window : 8 ≤ l.window ∧ l.window ≤ 256
  onLine : ∀ o, l.onLine = some o → Carries o l.queue
  counters : ∀ n ∈ Counters.list l.counters, n ≤ 65535

/-- R25, R31: a wait is under way only for a ready head frame on a quiet line. -/
def WaitOk (s : State) : Prop :=
  ∀ k, s.link.wait = some k → k < s.link.window ∧ headReady s = true ∧ s.link.quiet = true

/-- The link controller's rules together. -/
def LinkOk (s : State) : Prop := LinkRules s.link ∧ WaitOk s

theorem linkOk_iff : LinkOk s ↔ QueueOk s ∧ BackoffOk s ∧ AttemptOk s ∧ CountersOk s := by
  constructor
  · rintro ⟨⟨len, kinds, ⟨a, a'⟩, ⟨w, w'⟩, line, counters⟩, wait⟩
    exact ⟨⟨len, kinds .draw, kinds .settled⟩, ⟨a, a', w, w', wait⟩, line, counters⟩
  · rintro ⟨⟨len, draw, settled⟩, ⟨a, a', w, w', wait⟩, line, counters⟩
    exact ⟨⟨len, fun k => by cases k <;> assumption, ⟨a, a'⟩, ⟨w, w'⟩, line, counters⟩, wait⟩

theorem headReady_iff : headReady s = true ↔
    s.start.life = .joined ∧ s.link.lineUp = true ∧ s.link.onLine = none ∧ s.link.queue ≠ [] := by
  simp [headReady, and_assoc]

theorem headReady_congr (hl : t.start.life = s.start.life) (h : t.link = s.link) : headReady t = headReady s := by
  rw [headReady, headReady, hl, h]

theorem waitOk_of_none (h : s.link.wait = none) : WaitOk s := fun k hk => by rw [h] at hk; cases hk

theorem WaitOk.eq_none_of_not_ready (h : WaitOk s) (hr : headReady s = false) : s.link.wait = none := by
  cases hwait : s.link.wait with
  | none => rfl
  | some k =>
    obtain ⟨_, ready, _⟩ := h k hwait
    rw [ready] at hr
    cases hr

theorem headReady_of_onLine (ho : s.link.onLine = some o) : headReady s = false := by simp [headReady, ho]

/-- A wait stands where the head frame stays ready, on the line as it was. -/
theorem WaitOk.of_ready (h : WaitOk s) (hwait : t.link.wait = s.link.wait) (hwindow : t.link.window = s.link.window)
    (hquiet : s.link.quiet = true → t.link.quiet = true) (hready : headReady s = true → headReady t = true) :
    WaitOk t := by
  intro k hk
  obtain ⟨lt, ready, quiet⟩ := h k (hwait ▸ hk)
  exact ⟨hwindow ▸ lt, hready ready, hquiet quiet⟩

theorem LinkOk.congr (h : LinkOk s) (hlife : t.start.life = s.start.life) (hlink : t.link = s.link) : LinkOk t := by
  obtain ⟨rules, wait⟩ := h
  refine ⟨hlink ▸ rules, wait.of_ready (by rw [hlink]) (by rw [hlink]) (fun hq => by rw [hlink, hq]) fun hr => ?_⟩
  rw [headReady_congr hlife hlink, hr]

theorem LinkOk.of_changes {bs : List Block} (h : LinkOk s) (c : Changes bs s t)
    (hs : Block.start ∉ bs := by decide) (hl : Block.link ∉ bs := by decide) : LinkOk t :=
  h.congr (by rw [c.start hs]) (c.link hl)

theorem LinkOk.wait_eq_none (h : LinkOk s) (ho : s.link.onLine = some o) : s.link.wait = none :=
  h.2.eq_none_of_not_ready (headReady_of_onLine ho)

/-! ### The elementary operations -/

theorem linkOk_count (k : Counter) (h : LinkOk s) : LinkOk (count k s) := by
  obtain ⟨rules, wait⟩ := h
  exact ⟨{ rules with counters := counters_inc_le k rules.counters }, wait⟩

/-- A wait given up, and the line busy or not. -/
theorem linkOk_withoutWait (quiet up : Bool) (h : LinkOk s) :
    LinkOk (s.withLink { s.link with lineUp := up, quiet := quiet, wait := none }) :=
  ⟨⟨h.1.length, h.1.kinds, h.1.attempt, h.1.window, h.1.onLine, h.1.counters⟩, waitOk_of_none rfl⟩

theorem linkOk_tryContend (h : LinkOk s) : LinkOk (tryContend s) := by
  unfold tryContend
  split
  · rename_i hc
    simp only [Bool.and_eq_true] at hc
    obtain ⟨⟨ready, quiet⟩, _⟩ := hc
    obtain ⟨rules, _⟩ := h
    refine ⟨⟨rules.length, rules.kinds, rules.attempt, rules.window, rules.onLine, rules.counters⟩, fun k hk => ?_⟩
    obtain rfl : Config.slotDraw s.draws % s.link.window = k := Option.some.inj hk
    have window := rules.window
    exact ⟨Nat.mod_lt _ (by omega), ready, quiet⟩
  · exact h

theorem Carries.append {q : List QFrame} (f : QFrame) (h : Carries o q) : Carries o (q ++ [f]) := by
  obtain ⟨a, b, c, d⟩ := h
  refine ⟨a, fun _ => by simp, c, fun g q' hg holds => ?_⟩
  cases q with
  | nil => exact absurd rfl (b holds)
  | cons x xs =>
    obtain ⟨rfl, _⟩ := List.cons.inj hg
    exact d x xs rfl holds

/-- The link controller with a frame at the tail of its queue (R26). -/
theorem joinTail_eq (f : QFrame) : joinTail f s = tryContend (s.withLink { s.link with
    queue := s.link.queue ++ [f]
    attempt := if s.link.queue = [] then 1 else s.link.attempt
    window := if s.link.queue = [] then 8 else s.link.window }) := by
  unfold joinTail
  cases hq : s.link.queue <;> simp [Link.freshBackoff, hq]

/-- R30, R26: a frame at the tail of a queue that has room and none of its kind. -/
theorem linkOk_joinTail (f : QFrame) (room : s.link.queue.length < queueLimit)
    (new : ∀ k, f.isAnnounce k = true → announceCount k s.link.queue = 0) (h : LinkOk s) : LinkOk (joinTail f s) := by
  obtain ⟨rules, wait⟩ := h
  rw [joinTail_eq]
  refine linkOk_tryContend ⟨⟨by simpa using room, fun k => ?_, ?_, ?_, fun o ho => (rules.onLine o ho).append f,
    rules.counters⟩, ?_⟩
  · have count := rules.kinds k
    have zero := new k
    simp only [State.withLink_link, announceCount_append, announceCount_cons, announceCount_nil]
    split <;> simp_all
  · have attempt := rules.attempt
    simp only [State.withLink_link]
    split <;> omega
  · have window := rules.window
    simp only [State.withLink_link]
    split <;> omega
  · by_cases hq : s.link.queue = []
    · exact waitOk_of_none (wait.eq_none_of_not_ready (by simp [headReady, hq]))
    · refine wait.of_ready rfl (by simp [hq]) (fun h => h) fun hr => ?_
      obtain ⟨joined, up, free, _⟩ := headReady_iff.mp hr
      exact headReady_iff.mpr ⟨joined, up, free, by simp⟩

theorem linkOk_enqueueReply (r : Reply) (h : LinkOk s) : LinkOk (enqueueReply r s) := by
  unfold enqueueReply
  split
  · exact linkOk_count _ h
  · exact linkOk_joinTail _ (by omega) (fun k hk => nomatch hk) h

theorem mapHead_ne_nil {f : QFrame → QFrame} {q : List QFrame} (h : q ≠ []) : mapHead f q ≠ [] := by
  cases q with
  | nil => exact absurd rfl h
  | cons x q => simp [mapHead]

theorem Carries.mapHead {f : QFrame → QFrame} {q : List QFrame} (hb : ∀ x b, bodyOfFrame x b → bodyOfFrame (f x) b)
    (h : Carries o q) : Carries o (mapHead f q) := by
  obtain ⟨a, b, c, d⟩ := h
  refine ⟨a, fun holds => mapHead_ne_nil (b holds), c, fun g q' hg holds => ?_⟩
  cases q with
  | nil => exact absurd rfl (b holds)
  | cons x xs =>
    obtain ⟨rfl, _⟩ := List.cons.inj hg
    exact hb _ _ (d x xs rfl holds)

theorem linkOk_renewQueued (k : Announce) (h : LinkOk s) : LinkOk (renewQueued k s) := by
  obtain ⟨rules, wait⟩ := h
  unfold renewQueued
  dsimp only
  split
  · refine ⟨⟨by simpa using rules.length, rules.kinds.of_le fun k => (announceCount_mapHead isAnnounce_marked k _).le,
      rules.attempt, rules.window, fun o ho => (rules.onLine o ho).mapHead fun _ _ => bodyOfFrame_marked,
      rules.counters⟩, wait.of_ready rfl rfl (fun h => h) fun hr => ?_⟩
    obtain ⟨joined, up, free, hne⟩ := headReady_iff.mp hr
    exact headReady_iff.mpr ⟨joined, up, free, mapHead_ne_nil hne⟩
  · split
    · refine ⟨{ rules with onLine := fun o ho => ?_ }, wait.of_ready rfl rfl (fun h => h) fun hr => ?_⟩
      · obtain ⟨o', ho', rfl⟩ := Option.map_eq_some_iff.mp ho
        obtain ⟨a, b, _, d⟩ := rules.onLine o' ho'
        exact ⟨a, b, fun hp => (nomatch hp), d⟩
      · obtain ⟨joined, up, free, hne⟩ := headReady_iff.mp hr
        exact headReady_iff.mpr ⟨joined, up, by simp [free], hne⟩
    · exact ⟨rules, wait⟩

theorem headOnLine_of_none {l : Link} (h : l.onLine = none) : l.headOnLine = false := by
  unfold Link.headOnLine
  rw [h]

theorem headOnLine_of_some {l : Link} (h : l.onLine = some o) : l.headOnLine = o.holdsHead := by
  unfold Link.headOnLine
  rw [h]

/-- The head of the queue is a REPLY that is not on the line: it is the first to leave a full queue (R30). -/
def headLeaves (l : Link) : Bool := !l.headOnLine && (l.queue.head?.map QFrame.isReply).getD false

/-- The link controller with room made in its queue (R30, R26). -/
theorem makeRoom_link : (makeRoom s).link = { s.link with
    queue := dropOldestReply s.link.headOnLine s.link.queue
    counters := s.link.counters.inc .repliesDropped
    attempt := if headLeaves s.link then 1 else s.link.attempt
    window := if headLeaves s.link then 8 else s.link.window
    wait := if headLeaves s.link then none else s.link.wait } := by
  unfold makeRoom count headLeaves
  dsimp only [State.withLink_link]
  split <;> rfl

/-- R30, R26: the head leaves a full queue only where no attempt holds it, and its wait with it. -/
theorem linkOk_makeRoom (full : queueLimit ≤ s.link.queue.length) (h : LinkOk s) : LinkOk (makeRoom s) := by
  obtain ⟨rules, wait⟩ := h
  have short := dropOldestReply_length s.link.headOnLine rules.kinds full
  have nonempty : dropOldestReply s.link.headOnLine s.link.queue ≠ [] := by
    intro he
    rw [he, List.length_nil] at short
    unfold queueLimit at full
    omega
  have len := rules.length
  have attempt := rules.attempt
  have window := rules.window
  refine ⟨?_, ?_⟩
  · rw [makeRoom_link]
    refine ⟨by dsimp only; omega, rules.kinds.of_le fun k => announceCount_sublist (dropOldestReply_sublist _ _), ?_, ?_,
      fun o ho => ?_, counters_inc_le _ rules.counters⟩
    · dsimp only; split <;> omega
    · dsimp only; split <;> omega
    · obtain ⟨a, _, c, d⟩ := rules.onLine o ho
      refine ⟨a, fun _ => nonempty, c, fun f q hf holds => ?_⟩
      have onLine : s.link.headOnLine = true := by rwa [headOnLine_of_some (l := s.link) ho]
      dsimp only at hf
      rw [onLine] at hf
      cases hqueue : s.link.queue with
      | nil => rw [hqueue] at hf; cases hf
      | cons x xs =>
        rw [hqueue] at hf
        obtain ⟨rfl, _⟩ := List.cons.inj hf
        exact d x xs hqueue holds
  · by_cases gone : headLeaves s.link = true
    · exact waitOk_of_none (by rw [makeRoom_link]; simp [gone])
    · refine wait.of_ready (by rw [makeRoom_link]; simp [gone]) (by rw [makeRoom_link]; simp [gone])
        (fun h => by rw [makeRoom_link]; exact h) fun hr => ?_
      obtain ⟨joined, up, free, _⟩ := headReady_iff.mp hr
      rw [headReady_iff, (changes_makeRoom s).start, makeRoom_link]
      exact ⟨joined, up, free, nonempty⟩

theorem linkOk_enqueueAnnounce (k : Announce) (h : LinkOk s) : LinkOk (enqueueAnnounce k s) := by
  unfold enqueueAnnounce
  split
  · exact linkOk_renewQueued k h
  · rename_i none
    have new {q : List QFrame} (hq : q.Sublist s.link.queue) (k' : Announce)
        (hk : (QFrame.announce k false).isAnnounce k' = true) : announceCount k' q = 0 := by
      obtain rfl : k = k' := by simpa [QFrame.isAnnounce] using hk
      have := announceCount_sublist (k := k) hq
      have := announceCount_eq_zero none
      omega
    split
    · rename_i room
      exact linkOk_joinTail _ room (new (.refl _)) h
    · rename_i full
      have short := dropOldestReply_length s.link.headOnLine h.1.kinds (by omega)
      have len := h.1.length
      refine linkOk_joinTail _ ?_ (fun k' hk => ?_) (linkOk_makeRoom (by omega) h)
      · rw [makeRoom_link]
        dsimp only
        omega
      · rw [makeRoom_link]
        exact new (dropOldestReply_sublist _ _) k' hk

/-! ### Attempts -/

theorem carries_frameBody {f : QFrame} {q : List QFrame} (st : Byte) (h : q.head? = some f) :
    Carries { phase := .sending, holdsHead := true, preReset := false, sender := st, body := frameBody s f } q := by
  cases q with
  | nil => cases h
  | cons x xs =>
    obtain rfl := Option.some.inj h
    refine ⟨fun _ => rfl, fun _ => by simp, fun _ => rfl, fun g q' hg _ => ?_⟩
    obtain ⟨rfl, _⟩ := List.cons.inj hg
    exact bodyOfFrame_frameBody _

theorem linkOk_beginAttempt (h : LinkOk s) : LinkOk (beginAttempt s) := by
  unfold beginAttempt
  split
  · split
    · rename_i f st hf _
      obtain ⟨rules, _⟩ := h
      refine ⟨{ rules with onLine := fun o ho => ?_ }, waitOk_of_none rfl⟩
      obtain rfl := Option.some.inj ho
      exact carries_frameBody st hf
    · exact h
  · exact h

/-- R30: the head frame leaves the queue, or stays unmarked, with fresh backoff. -/
theorem linkRules_popHead {l : Link} (h : LinkRules l) (x : Option OnLine) (quiet : Bool)
    (hx : ∀ o, x = some o → Carries o l.queue.tail) :
    LinkRules { l.popHead with onLine := x, quiet := quiet } where
  length := (by simp : l.queue.tail.length ≤ l.queue.length).trans h.length
  kinds := h.kinds.of_le fun _ => announceCount_sublist (List.tail_sublist _)
  attempt := ⟨le_rfl, by simp [Link.popHead, Link.freshBackoff]⟩
  window := ⟨le_rfl, by simp [Link.popHead, Link.freshBackoff]⟩
  onLine := hx
  counters := h.counters

theorem linkRules_renewHead {l : Link} (h : LinkRules l) (x : Option OnLine) (quiet : Bool)
    (hx : ∀ o, x = some o → Carries o (mapHead QFrame.unmarked l.queue)) :
    LinkRules { l.renewHead with onLine := x, quiet := quiet } where
  length := by simpa [Link.renewHead] using h.length
  kinds := h.kinds.of_le fun k => (announceCount_mapHead isAnnounce_unmarked k _).le
  attempt := ⟨le_rfl, by simp [Link.renewHead, Link.freshBackoff]⟩
  window := ⟨le_rfl, by simp [Link.renewHead, Link.freshBackoff]⟩
  onLine := hx
  counters := h.counters

theorem linkOk_completed (ho : s.link.onLine = some o) (h : LinkOk s) :
    LinkOk (s.withLink { (if headRenew s.link.queue then s.link.renewHead else s.link.popHead) with
      onLine := none, quiet := false }) := by
  have noWait := h.wait_eq_none ho
  split
  · exact ⟨linkRules_renewHead h.1 none false (fun _ h => nomatch h), waitOk_of_none noWait⟩
  · exact ⟨linkRules_popHead h.1 none false (fun _ h => nomatch h), waitOk_of_none noWait⟩

theorem linkOk_endJam (ho : s.link.onLine = some o) (h : LinkOk s) : LinkOk (endJam o s) := by
  have noWait := h.wait_eq_none ho
  unfold endJam
  split
  · exact ⟨linkRules_popHead h.1 none false (fun _ h => nomatch h), waitOk_of_none noWait⟩
  · exact ⟨{ h.1 with onLine := fun _ h => nomatch h }, waitOk_of_none noWait⟩

theorem linkOk_released (h : LinkOk s) : LinkOk (s.withLink { s.link with onLine := none }) := by
  obtain ⟨rules, wait⟩ := h
  refine ⟨{ rules with onLine := fun _ h => nomatch h }, wait.of_ready rfl rfl (fun h => h) fun hr => ?_⟩
  obtain ⟨joined, up, _, hne⟩ := headReady_iff.mp hr
  exact headReady_iff.mpr ⟨joined, up, rfl, hne⟩

/-- R28: the four outcomes of a collision.  The attempt of the head jams on with the head unmarked, or without it. -/
theorem linkOk_collided (ho : s.link.onLine = some o) (hp : o.phase = .sending) (h : LinkOk s) :
    LinkOk (s.withLink { collideLink o s.link with quiet := false }) := by
  have noWait := h.wait_eq_none ho
  obtain ⟨rules, _⟩ := h
  have carried := rules.onLine o ho
  have stays : ∀ o', some { o with phase := .jamming, holdsHead := true, preReset := false } = some o' →
      Carries o' (mapHead QFrame.unmarked s.link.queue) := by
    intro o' ho'
    obtain rfl := Option.some.inj ho'
    obtain ⟨a, b, _, d⟩ := carried.mapHead fun _ _ => bodyOfFrame_unmarked
    exact ⟨fun _ => rfl, fun _ => b (a hp), fun _ => rfl, fun f q hq _ => d f q hq (a hp)⟩
  have leaves : ∀ o', some { o with phase := .jamming, holdsHead := false, preReset := false } = some o' →
      Carries o' s.link.queue.tail := by
    intro o' ho'
    obtain rfl := Option.some.inj ho'
    exact ⟨fun h => (nomatch h), fun h => (nomatch h), fun h => (nomatch h), fun _ _ _ h => (nomatch h)⟩
  have abandoned : LinkRules { s.link with counters := s.link.counters.inc .abandoned } :=
    { rules with counters := counters_inc_le _ rules.counters }
  have rulesAfter : LinkRules { collideLink o s.link with quiet := false } := by
    unfold collideLink
    dsimp only
    split
    · split
      · exact linkRules_renewHead rules _ false stays
      · exact linkRules_popHead rules _ false leaves
    · split
      · rename_i below
        have attempt := rules.attempt
        have window := rules.window
        refine ⟨by simpa using rules.length, rules.kinds.of_le fun k => (announceCount_mapHead isAnnounce_unmarked k _).le,
          ?_, ?_, stays, rules.counters⟩
        · dsimp only; omega
        · unfold doubleWindow; dsimp only; omega
      · split
        · exact linkRules_renewHead abandoned _ false stays
        · exact linkRules_popHead abandoned _ false leaves
  refine ⟨rulesAfter, waitOk_of_none ?_⟩
  show (collideLink o s.link).wait = none
  rw [← noWait]
  unfold collideLink
  dsimp only
  split
  · split <;> rfl
  · split
    · rfl
    · split <;> rfl

/-- R37: a LINK reset leaves at most the frame on the line. -/
theorem linkOk_resetLinkControl (h : LinkOk s) : LinkOk (resetLinkControl s) := by
  obtain ⟨rules, _⟩ := h
  have zero : ∀ n ∈ Counters.list Counters.zero, n ≤ 65535 := by decide
  have carried (o : OnLine) (ho : s.link.onLine = some o) :
      Carries { o with preReset := o.holdsHead }
        (if s.link.headOnLine then (s.link.queue.take 1).map QFrame.unmarked else []) := by
    obtain ⟨a, b, _, d⟩ := rules.onLine o ho
    rw [headOnLine_of_some ho]
    cases hqueue : s.link.queue with
    | nil =>
      have free : o.holdsHead = false := Bool.eq_false_iff.mpr fun hh => b hh hqueue
      exact ⟨a, fun hh => absurd hh (by simp [free]), fun hh => hh, fun _ _ _ hh => absurd hh (by simp [free])⟩
    | cons x xs =>
      refine ⟨a, fun hh => by simp_all, fun hh => hh, fun f q hf hh => ?_⟩
      dsimp only at hh
      rw [if_pos hh] at hf
      obtain ⟨rfl, _⟩ := List.cons.inj hf
      exact bodyOfFrame_unmarked (d x xs hqueue hh)
  have few : (if s.link.headOnLine then (s.link.queue.take 1).map QFrame.unmarked else []).length ≤ s.link.queue.length ∧
      ∀ k, announceCount k (if s.link.headOnLine then (s.link.queue.take 1).map QFrame.unmarked else []) ≤
        announceCount k s.link.queue := by
    cases s.link.queue with
    | nil => simp
    | cons f q => split <;> simp
  refine ⟨⟨few.1.trans rules.length, rules.kinds.of_le few.2, ⟨le_rfl, by simp [resetLinkControl]⟩,
    ⟨le_rfl, by simp [resetLinkControl]⟩, fun o ho => ?_, zero⟩, waitOk_of_none rfl⟩
  obtain ⟨o', ho', rfl⟩ := Option.map_eq_some_iff.mp ho
  exact carried o' ho'

theorem linkOk_linkWork : KeptByLinkWork LinkOk where
  count k h := linkOk_count k h
  enqueueReply r h := linkOk_enqueueReply r h
  enqueueAnnounce k h := linkOk_enqueueAnnounce k h
  tryContend h := linkOk_tryContend h
  lineBusy {s} h := linkOk_withoutWait false s.link.lineUp h
  noteClash h := linkOk_count _ ⟨{ h.1 with }, h.2⟩
  zeroCounters h := ⟨{ h.1 with counters := by show ∀ n ∈ Counters.list Counters.zero, n ≤ 65535; decide }, h.2⟩
  quietGapEnds {s} h := by
    unfold quietGapEnds
    split
    · exact h
    · exact linkOk_tryContend ⟨{ h.1 with }, h.2.of_ready rfl rfl (fun _ => rfl) fun hr => hr⟩
  beginAttempt h := linkOk_beginAttempt h
  endJam ho h := linkOk_endJam ho h
  collided ho hp h := linkOk_collided (s := count .collisions _) ho hp (linkOk_count _ h)
  completed ho _ h := linkOk_completed ho h
  released h := linkOk_released h
  lineUp {s} hup h := by
    have noWait := h.2.eq_none_of_not_ready (by simp [headReady, hup])
    have ok := linkOk_withoutWait true true h
    rwa [← noWait] at ok
  lineDown h := linkOk_withoutWait false false h
  resetLinkControl h := linkOk_resetLinkControl h

/-- A change of the life state keeps the rules where no wait is under way or the tile is JOINED. -/
theorem LinkOk.of_life (h : LinkOk s) (hlink : t.link = s.link) (hlife : s.link.wait = none ∨ t.start.life = .joined) :
    LinkOk t := by
  obtain ⟨rules, wait⟩ := h
  refine ⟨hlink ▸ rules, ?_⟩
  obtain hnone | hjoined := hlife
  · exact waitOk_of_none (by rw [hlink, hnone])
  · refine wait.of_ready (by rw [hlink]) (by rw [hlink]) (fun hq => by rw [hlink, hq]) fun hr => ?_
    obtain ⟨_, up, free, hne⟩ := headReady_iff.mp hr
    exact headReady_iff.mpr ⟨hjoined, by rwa [hlink], by rwa [hlink], by rwa [hlink]⟩

theorem LinkOk.wait_eq_none_of_life (h : LinkOk s) (hl : s.start.life ≠ .joined) : s.link.wait = none :=
  h.2.eq_none_of_not_ready (by simp [headReady, hl])

theorem linkOk_reset (hlink : t.link = State.reset.link) : LinkOk t := by
  obtain ⟨hq, hb, ha, hc, _⟩ := resetMeetsEveryInvariant
  obtain ⟨rules, _⟩ := linkOk_iff.mpr ⟨hq, hb, ha, hc⟩
  exact ⟨hlink ▸ rules, waitOk_of_none (by rw [hlink]; rfl)⟩

theorem linkOk_events : KeptByEvents LinkOk where
  side c h := h.of_changes c.changes
  share c h := h.of_changes c
  linkWork := linkOk_linkWork
  plantWork := keptByPlantWork_of_changes fun c h => h.of_changes c
  clearStrips := clearStrips_keeps
    (keptByWork_of_settled (fun c _ h => h.of_changes c) fun _ h =>
      linkOk_enqueueAnnounce _ (h.of_changes (changes_withPage _ _)))
    (fun h => h.of_changes (changes_withTouch _ _)) fun l h => h.of_changes (changes_lineCloses l _)
  powerOn _ _ := linkOk_reset rfl
  holdReset _ := linkOk_reset rfl
  endConfig _ _ hl h := h.of_life rfl (.inl (h.wait_eq_none_of_life (by rw [hl]; decide)))
  listening _ hw h := h.of_life rfl (.inl (hw.elim (fun hl => h.wait_eq_none_of_life (by rw [hl]; decide)) id))
  enterJoined {s} _ h := by
    have joined : LinkOk (s.withStart { s.start with life := .joined, joinTimer := none }) := h.of_life rfl (.inr rfl)
    exact (((linkOk_tryContend joined).of_changes (changes_recomputeAllowance _)).of_changes
      (changes_judgeRise _)).of_changes (changes_startDrift _)
  passTime h := h.congr rfl rfl

end Link

/-! ### The obligation -/

/-- Settles O56: every step is an event, and every event keeps the link controller's rules. -/
theorem everyStepKeepsTheLinkController : Obligations.EveryStepKeepsTheLinkController := by
  unfold Obligations.EveryStepKeepsTheLinkController
  intro s t hs ht
  obtain ⟨q, e⟩ := step_event ht
  rw [← linkOk_iff] at hs ⊢
  exact linkOk_events.event e (hs.congr rfl rfl)

end Sys2Proof.Machine
end

section
/-!
CONFIG (R3, R183 to R186): the settings that the straps and the settings memory give, the records read back from it, and
END_OF_CONFIG, which puts them in force.
-/

namespace Sys2Proof.Machine

section Items
variable {records : List (Byte × Nat)} {item : Byte} {lo hi d : Nat}

/-- R185: the last record of an item stands. -/
theorem standing_eq_getLast : standing records item =
    ((records.filter (fun r => r.1 == item)).getLast?).map (·.2) := by
  rw [standing, ← List.head?_filter, List.filter_reverse, List.head?_reverse]

theorem clamp_eq_max_min {v : Nat} (h : lo ≤ hi) : clamp lo hi v = max lo (min v hi) := by
  unfold clamp
  split <;> try split
  all_goals omega

/-- R186 step 1: the nearer bound, or the default. -/
theorem itemValue_eq (h : lo ≤ hi) : itemValue records item lo hi d =
    (standing records item).elim d (fun v => max lo (min v hi)) := by
  unfold itemValue
  cases standing records item with
  | none => rfl
  | some v => exact clamp_eq_max_min h

theorem itemValue_mem (h : lo ≤ hi) (h1 : lo ≤ d) (h2 : d ≤ hi) :
    lo ≤ itemValue records item lo hi d ∧ itemValue records item lo hi d ≤ hi := by
  rw [itemValue_eq h]
  cases standing records item with
  | none => exact ⟨h1, h2⟩
  | some v => simp only [Option.elim_some]; omega

/-- R186 step 1: clamping changes a value that lies outside its range. -/
theorem itemClamped_iff (h : lo ≤ hi) : itemClamped records item lo hi = true ↔
    ∃ v, standing records item = some v ∧ (v < lo ∨ hi < v) := by
  unfold itemClamped
  cases standing records item with
  | none => simp
  | some v =>
    simp only [clamp_eq_max_min h, bne_iff_ne, Option.some.injEq, exists_eq_left']
    omega

/-- R186 step 3. -/
theorem statusCellValue_eq (lines cells : Nat) : statusCellValue records lines cells =
    match standing records 8 with
    | none => none
    | some v => if v ≠ 0xFFFF ∧ v / 256 < lines ∧ v % 256 < cells then some (v / 256, v % 256) else none := by
  unfold statusCellValue
  cases standing records 8 with
  | none => rfl
  | some v =>
    dsimp only
    by_cases h : v = 0xFFFF
    · simp [h]
    · simp [h]

theorem statusCellValue_lt {lines cells l k : Nat} (h : statusCellValue records lines cells = some (l, k)) :
    l < lines ∧ k < cells := by
  rw [statusCellValue_eq] at h
  split at h
  · cases h
  · split at h
    · rename_i hin
      cases h
      exact hin.2
    · cases h

theorem statusCellRefused_iff (lines cells : Nat) : statusCellRefused records lines cells = true ↔
    ∃ v, standing records 8 = some v ∧ v ≠ 0xFFFF ∧ statusCellValue records lines cells = none := by
  rw [statusCellValue_eq]
  unfold statusCellRefused
  cases standing records 8 with
  | none => simp
  | some v =>
    by_cases h : v = 0xFFFF
    · simp [h]
    · simp [h]
      omega

end Items

section Settings
variable (straps : BitVec 5) (memory : List Byte)

/-- R3, R185, R186: the settings put in force lie in their ranges. -/
theorem settingsOk_settingsOf : SettingsOk (settingsOf straps memory) := by
  have strapsLt : straps.toNat < 32 := straps.isLt
  have station := itemValue_mem (records := memoryRecords memory) (item := 0x01) (lo := 0) (hi := 31)
    (d := straps.toNat) (by omega) (by omega) (by omega)
  have firstLine := itemValue_mem (records := memoryRecords memory) (item := 0x02) (lo := 0) (hi := 31) (d := 0)
    (by omega) (by omega) (by omega)
  have lines := itemValue_mem (records := memoryRecords memory) (item := 0x03) (lo := 1) (hi := 6) (d := 6)
    (by omega) (by omega) (by omega)
  have firstCell := itemValue_mem (records := memoryRecords memory) (item := 0x04) (lo := 0) (hi := 63) (d := 0)
    (by omega) (by omega) (by omega)
  have cells := itemValue_mem (records := memoryRecords memory) (item := 0x05) (lo := 1) (hi := 10) (d := 10)
    (by omega) (by omega) (by omega)
  refine ⟨?_, ?_, ?_, ?_, ?_, itemValue_mem (by omega) (by omega) (by omega), itemValue_mem (by omega) (by omega) (by omega),
    itemValue_mem (by omega) (by omega) (by omega), fun l k h => statusCellValue_lt h⟩
  · simp only [settingsOf, BitVec.toNat_ofNat]
    omega
  · simp only [settingsOf]; omega
  · simp only [settingsOf]; omega
  · simp only [settingsOf]; omega
  · simp only [settingsOf]; omega

/-- R186: the flag is set when a step changes a value. -/
theorem settingsAdjusted_iff :
    settingsAdjusted memory = true ↔
      itemClamped (memoryRecords memory) 1 0 31 = true ∨ itemClamped (memoryRecords memory) 2 0 31 = true ∨
      itemClamped (memoryRecords memory) 3 1 6 = true ∨ itemClamped (memoryRecords memory) 4 0 63 = true ∨
      itemClamped (memoryRecords memory) 5 1 10 = true ∨ itemClamped (memoryRecords memory) 6 1 16 = true ∨
      itemClamped (memoryRecords memory) 7 600 24000 = true ∨ itemClamped (memoryRecords memory) 9 5 60 = true ∨
      (settingsOf straps memory).lineCount ≠ itemValue (memoryRecords memory) 3 1 6 6 ∨
      (settingsOf straps memory).cellCount ≠ itemValue (memoryRecords memory) 5 1 10 10 ∨
      statusCellRefused (memoryRecords memory) (settingsOf straps memory).lineCount
        (settingsOf straps memory).cellCount = true := by
  have cut (a b : Nat) : b < a ↔ min a b ≠ a := by omega
  simp only [settingsAdjusted, settingsOf, Bool.or_eq_true, decide_eq_true_eq, cut, or_assoc]

/-- R184: without the signature no record is read. -/
theorem memoryRecords_of_no_signature {memory : List Byte} (h : memory.head? ≠ some 0xA7) :
    memorySource memory = .defaults ∧ memoryRecords memory = [] := by
  have source : memorySource memory = .defaults := by
    unfold memorySource memoryByte
    cases memory with
    | nil => rfl
    | cons b bs =>
      rw [if_neg]
      simpa using h
  exact ⟨source, by rw [memoryRecords, source]⟩

end Settings

/-! ### Records read back -/

/-- R184: a record as it is stored: its item code and its value, high byte first. -/
def recordBytes (r : Byte × Half) : List Byte := r.1 :: halfBytes r.2

/-- A two-byte field, high byte first, read as a number. -/
theorem halfBytes_toNat (h : Half) : ∃ a b, halfBytes h = [a, b] ∧ a.toNat * 256 + b.toNat = h.toNat := by
  refine ⟨_, _, rfl, ?_⟩
  have := h.isLt
  simp only [BitVec.extractLsb'_toNat, Nat.shiftRight_eq_div_pow]
  omega

theorem memoryByte_append (pre rest : List Byte) (i : Nat) :
    memoryByte (pre ++ rest) (pre.length + i) = memoryByte rest i := by
  simp [memoryByte, List.getD_eq_getElem?_getD, List.getElem?_append_right]

/-- R184: the records that stand from record `k` on are read back, up to the end marker or the last that may be read. -/
theorem readRecords_stored (records : List (Byte × Half)) (rest : List Byte) (fuel k : Nat) (pre : List Byte)
    (hpre : pre.length = 3 * k + 1) (hlen : records.length ≤ fuel) (hitem : ∀ r ∈ records, r.1 ≠ 0)
    (hend : records.length < fuel → rest.head? = some 0) :
    readRecords (pre ++ (records.flatMap recordBytes ++ rest)) fuel k = records.map (fun r => (r.1, r.2.toNat)) := by
  induction records generalizing fuel k pre with
  | nil =>
    cases fuel with
    | zero => rfl
    | succ fuel =>
      have marker : memoryByte (pre ++ rest) (3 * k + 1) = 0 := by
        rw [← hpre, ← Nat.add_zero pre.length, memoryByte_append]
        cases rest with
        | nil => simp at hend
        | cons b bs =>
          have hb := hend (by simp)
          simpa [memoryByte] using hb
      simp [readRecords, marker]
  | cons r records ih =>
    obtain ⟨hr, hitem⟩ := List.forall_mem_cons.mp hitem
    cases fuel with
    | zero => simp at hlen
    | succ fuel =>
      obtain ⟨a, b, hab, hvalue⟩ := halfBytes_toNat r.2
      have bytes (i : Nat) : memoryByte (pre ++ ((r :: records).flatMap recordBytes ++ rest)) (3 * k + 1 + i) =
          memoryByte (r.1 :: a :: b :: (records.flatMap recordBytes ++ rest)) i := by
        rw [← hpre, memoryByte_append, List.flatMap_cons, recordBytes, hab]
        rfl
      have next : pre ++ ((r :: records).flatMap recordBytes ++ rest) =
          (pre ++ [r.1, a, b]) ++ (records.flatMap recordBytes ++ rest) := by
        rw [List.flatMap_cons, recordBytes, hab]
        simp
      have code : memoryByte (pre ++ ((r :: records).flatMap recordBytes ++ rest)) (3 * k + 1) = r.1 := bytes 0
      have high : memoryByte (pre ++ ((r :: records).flatMap recordBytes ++ rest)) (3 * k + 2) = a := bytes 1
      have low : memoryByte (pre ++ ((r :: records).flatMap recordBytes ++ rest)) (3 * k + 3) = b := bytes 2
      rw [readRecords, code, high, low, if_neg hr, hvalue, next,
        ih fuel (k + 1) (pre ++ [r.1, a, b]) (by simp; omega) (by simpa using hlen) hitem (by simpa using hend)]
      rfl

/-! ### The obligations -/

/-- Settles O6. -/
theorem endOfConfigPutsTheSettingsInForce : Obligations.EndOfConfigPutsTheSettingsInForce := by
  unfold Obligations.EndOfConfigPutsTheSettingsInForce
  intro memory strips s running config
  refine ⟨endConfig memory strips s, ?_, ?_, settingsOf s.start.straps memory, rfl, rfl, rfl, rfl, rfl, rfl,
    by simp [endConfig], fun l hl => ?_⟩
  · show whenRunning s _ = _
    rw [whenRunning_running running, if_pos config]
  · unfold endConfig
    exact (((((changes_withStart _ _).comp (changes_withPage _ _) (ds := [.start, .page, .shown, .plan, .touch])).comp
      (changes_withShown _ _) (ds := [.start, .page, .shown, .plan, .touch])).comp
      (changes_withPlan _ _) (ds := [.start, .page, .shown, .plan, .touch])).comp
      (changes_withTouch _ _) (ds := [.start, .page, .shown, .plan, .touch]))
  · simp only [endConfig, State.withTouch_touch, List.getElem?_map, List.getElem?_range hl, Option.map_some, firstReading]
    split <;> rfl

/-- Settles O7: item by item, from `itemValue_eq`, `itemClamped_iff` and the equations of the status cell. -/
theorem settingsInForceLieInTheirRanges : Obligations.SettingsInForceLieInTheirRanges := by
  unfold Obligations.SettingsInForceLieInTheirRanges
  intro straps memory
  obtain ⟨station, ⟨line1, line6⟩, ⟨first31, fits⟩, ⟨cell1, cell10⟩, ⟨first63, fitsCell⟩, ⟨tile1, tile16⟩,
    ⟨rail600, rail24000⟩, ⟨hold5, hold60⟩, cell⟩ := settingsOk_settingsOf straps memory
  refine ⟨settingsOf straps memory, rfl, station, line1, line6, first31, fits, cell1, cell10, first63, fitsCell, tile1,
    tile16, rail600, rail24000, hold5, hold60, cell, ?_, fun hsig => ?_⟩
  · simp only [← standing_eq_getLast]
    refine ⟨?_, ?_, ?_, ?_, ?_, ?_, ?_, ?_, rfl, statusCellValue_eq _ _, ?_⟩
    · rw [← itemValue_eq (by omega)]; rfl
    · rw [← itemValue_eq (by omega)]; rfl
    · rw [← itemValue_eq (by omega)]; rfl
    · rw [← itemValue_eq (by omega)]; rfl
    · rw [← itemValue_eq (by omega)]; rfl
    · rw [← itemValue_eq (by omega)]; rfl
    · rw [← itemValue_eq (by omega)]; rfl
    · rw [← itemValue_eq (by omega)]; rfl
    · rw [settingsAdjusted_iff straps, statusCellRefused_iff]
      rw [itemClamped_iff (by omega), itemClamped_iff (by omega), itemClamped_iff (by omega), itemClamped_iff (by omega),
        itemClamped_iff (by omega), itemClamped_iff (by omega), itemClamped_iff (by omega), itemClamped_iff (by omega),
        ← itemValue_eq (by omega), ← itemValue_eq (by omega)]
      rfl
  · obtain ⟨source, none⟩ := memoryRecords_of_no_signature hsig
    refine ⟨by rw [settingsAdjusted, none]; decide, ?_⟩
    have strapsLt : straps.toNat < 32 := straps.isLt
    have wide : BitVec.ofNat 8 straps.toNat = straps.zeroExtend 8 :=
      BitVec.eq_of_toNat_eq (by simp)
    simp only [settingsOf, none, source]
    simp [itemValue, standing, statusCellValue, wide]

/-- Settles O8. -/
theorem storedRecordsAreReadBack : Obligations.StoredRecordsAreReadBack := by
  unfold Obligations.StoredRecordsAreReadBack
  intro records rest hlen hitem hend
  refine ⟨_, rfl, rfl, ?_⟩
  have read := readRecords_stored records rest 32 0 [0xA7#8] rfl hlen hitem hend
  exact read

end Sys2Proof.Machine
end

section
/-!
The plan and the row pipeline (R64, R65, R86 to R102): every operation on the plan leaves legal jobs, and every operation
on the pipeline leaves slots as the rules say; so every event does.
-/

namespace Sys2Proof.Machine

section Start
variable {s t : State}

theorem StartOk.congr (h : StartOk s) (hstart : t.start = s.start) : StartOk t := by
  obtain ⟨a, b, c⟩ := h
  exact ⟨by rwa [hstart], by rwa [hstart], by rwa [hstart]⟩

theorem StartOk.of_changes {bs : List Block} (h : StartOk s) (c : Changes bs s t)
    (hs : Block.start ∉ bs := by decide) : StartOk t := h.congr (c.start hs)

/-- R3: the rectangle fits the tile. -/
theorem StartOk.cells_le (h : StartOk s) : cellCount s ≤ 10 := by
  obtain ⟨_, _, inRange⟩ := h
  unfold cellCount
  cases hc : s.start.settings with
  | none => simp
  | some c =>
    obtain ⟨_, _, _, ⟨_, cells⟩, _⟩ := inRange c hc
    exact cells

theorem StartOk.rows_le (h : StartOk s) : rowCount s ≤ 24 := by
  obtain ⟨_, _, inRange⟩ := h
  unfold rowCount lineCount
  cases hc : s.start.settings with
  | none => simp
  | some c =>
    obtain ⟨_, ⟨_, lines⟩, _⟩ := inRange c hc
    simp only [Option.elim_some]
    omega

theorem StartOk.settings_of_life (h : StartOk s) (hl : s.start.life ≠ .config) : ∃ c, s.start.settings = some c := by
  obtain ⟨config, _, _⟩ := h
  exact Option.ne_none_iff_exists'.mp (mt config.mpr hl)

/-- In CONFIG no rectangle is in force. -/
theorem StartOk.life_of_row (h : StartOk s) {r : Nat} (hr : r < rowCount s) : s.start.life ≠ .config := by
  obtain ⟨config, _, _⟩ := h
  intro hl
  simp [rowCount, lineCount, config.mp hl] at hr

/-- R11: the rows of the status cell lie in the rectangle. -/
theorem StartOk.statusRow_lt (h : StartOk s) {r : Nat} (hr : r ∈ statusRows s ∨ r < rowCount s) : r < rowCount s := by
  obtain hr | hr := hr
  · obtain ⟨_, _, inRange⟩ := h
    unfold statusRows statusCell at hr
    cases hc : s.start.settings with
    | none => simp [hc] at hr
    | some c =>
      obtain ⟨_, _, _, _, _, _, _, _, cell⟩ := inRange c hc
      cases hcell : c.statusCell with
      | none => simp [hc, hcell] at hr
      | some lk =>
        obtain ⟨hl, _⟩ := cell lk.1 lk.2 hcell
        simp only [hc, hcell, Option.bind_some, List.mem_cons, List.not_mem_nil, or_false] at hr
        simp only [rowCount, lineCount, hc, Option.elim_some]
        omega
  · exact hr

theorem rowCount_congr (h : t.start = s.start) : rowCount t = rowCount s := by rw [rowCount, rowCount, lineCount, lineCount, h]

theorem colCount_congr (h : t.start = s.start) : colCount t = colCount s := by rw [colCount, colCount, cellCount, cellCount, h]

end Start

section Plan
variable {s t : State} {r : Nat}

/-! ### Pins of a diff and of the fault map -/

theorem getLsbD_stuckPins (hc : cellCount s ≤ 10) (p : Nat) :
    (stuckPins s r).getLsbD p = (decide (p < colCount s) && (faultAt s r p).isStuck) :=
  getLsbD_pinSet _ _ (by unfold colCount; omega) _

/-- R68: the raise and the lower set of a diff have no pin in common. -/
theorem diff_disjoint (s : State) (r : Nat) : (diff s r).raise &&& (diff s r).lower = 0#20 := by
  refine BitVec.eq_of_getLsbD_eq fun p _ => ?_
  simp only [diff, BitVec.getLsbD_and, BitVec.getLsbD_not, BitVec.getLsbD_zero]
  cases (targetRow s r).getLsbD p <;> simp

/-- R68: a diff is made of pins of the rectangle that are not STUCK. -/
theorem diff_struck (hc : cellCount s ≤ 10) {p : Nat} (h : (diff s r).struck.getLsbD p = true) :
    p < colCount s ∧ (faultAt s r p).isStuck = false := by
  have target := getLsbD_imageRow (targetEff s) (cellCount s) r p hc
  have shown := getLsbD_imageRow s.shown (cellCount s) r p hc
  have stuck := getLsbD_stuckPins (s := s) (r := r) hc p
  simp only [Moves.struck, diff, targetRow, shownRow, BitVec.getLsbD_or, BitVec.getLsbD_and, BitVec.getLsbD_not, target,
    shown, stuck] at h
  by_cases hp : p < colCount s
  · refine ⟨hp, ?_⟩
    cases hs : (faultAt s r p).isStuck with
    | false => rfl
    | true => simp [hp, hs] at h
  · have hp' : ¬ p < 2 * cellCount s := hp
    simp [hp'] at h

/-- R65: the job that a diff makes is a legal one. -/
theorem jobOk_diff (hs : StartOk s) (hr : r < rowCount s) (hne : (diff s r).isEmpty = false) {a : Nat} (h1 : 1 ≤ a)
    (h3 : a ≤ 3) (level : Level) : JobOk s r ⟨diff s r, a, level⟩ :=
  ⟨hr, diff_disjoint s r, hne, fun _ hp => diff_struck hs.cells_le hp, h1, h3⟩

/-- The fault map with the states of one row changed, read at a pin. -/
theorem faultAt_changeFaults (f : Nat → PinFault → PinFault) (r' : Nat) {p : Nat} (hp : p < colCount s) :
    faultAt (s.withPlan { s.plan with faults := changeFaults s r f }) r' p =
      if r' = r ∧ r' * colCount s + p < s.plan.faults.length then f p (faultAt s r' p) else faultAt s r' p := by
  have div : (r' * colCount s + p) / colCount s = r' := by
    rw [Nat.mul_comm, Nat.mul_add_div (by omega), Nat.div_eq_of_lt hp]
    rfl
  have mod : (r' * colCount s + p) % colCount s = p := by rw [Nat.mul_comm, Nat.mul_add_mod, Nat.mod_eq_of_lt hp]
  have cols : colCount (s.withPlan { s.plan with faults := changeFaults s r f }) = colCount s := rfl
  unfold faultAt
  rw [cols]
  simp only [changeFaults, State.withPlan_plan, List.getD_eq_getElem?_getD, List.getElem?_mapIdx]
  by_cases hin : r' * colCount s + p < s.plan.faults.length
  · simp only [List.getElem?_eq_getElem hin, Option.map_some, Option.getD_some, div, mod, hin, and_true]
  · simp [hin]

/-! ### Legal jobs -/

theorem JobOk.congr {j : Job} (h : JobOk s r j) (hstart : t.start = s.start)
    (hf : ∀ p < colCount s, (faultAt s r p).isStuck = false → (faultAt t r p).isStuck = false) : JobOk t r j := by
  obtain ⟨a, b, c, d, e⟩ := h
  refine ⟨by rwa [rowCount_congr hstart], b, c, fun p hp => ?_, e⟩
  rw [colCount_congr hstart]
  exact ⟨(d p hp).1, hf p (d p hp).1 (d p hp).2⟩

theorem PlanOk.congr (h : PlanOk s) (hstart : t.start = s.start) (hplan : t.plan = s.plan) : PlanOk t := by
  obtain ⟨jobs, config⟩ := h
  refine ⟨fun r j hj => ?_, fun hl => ?_⟩
  · rw [jobAt_congr hplan] at hj
    refine (jobs r j hj).congr hstart fun p hp hs => ?_
    rwa [faultAt, colCount_congr hstart, hplan]
  · rw [planEmpty, hplan]
    exact config (by rwa [← hstart])

theorem PlanOk.of_changes {bs : List Block} (h : PlanOk s) (c : Changes bs s t) (hs : Block.start ∉ bs := by decide)
    (hp : Block.plan ∉ bs := by decide) : PlanOk t := h.congr (c.start hs) (c.plan hp)

/-- Fewer jobs, on a map with no further STUCK pin, are legal. -/
theorem planOk_of_fewer (h : PlanOk s) (hstart : t.start = s.start)
    (hjobs : ∀ r j, jobAt t r = some j → jobAt s r = some j ∧
      ∀ p < colCount s, (faultAt s r p).isStuck = false → (faultAt t r p).isStuck = false) : PlanOk t := by
  obtain ⟨jobs, config⟩ := h
  refine ⟨fun r j hj => (jobs r j (hjobs r j hj).1).congr hstart (hjobs r j hj).2, fun hl => ?_⟩
  have none := planEmpty_iff.mp (config (by rwa [← hstart]))
  refine planEmpty_iff.mpr fun r => ?_
  cases hj : jobAt t r with
  | none => rfl
  | some j => rw [(none r).symm.trans (hjobs r j hj).1]

theorem planOk_removeJob (r : Nat) (h : PlanOk s) : PlanOk (removeJob r s) := by
  refine planOk_of_fewer h rfl fun r' j hj => ⟨?_, fun _ _ hs => hs⟩
  rw [jobAt_removeJob] at hj
  split at hj
  · cases hj
  · exact hj

theorem planOk_emptyPlan (h : PlanOk s) : PlanOk (emptyPlan s) := by
  refine planOk_of_fewer h rfl fun r j hj => ?_
  simp only [jobAt, emptyPlan, State.withPlan_plan, Vector.getElem?_replicate] at hj
  split at hj <;> cases hj

theorem planOk_clearFaultMap (h : PlanOk s) : PlanOk (clearFaultMap s) := by
  refine planOk_of_fewer h rfl fun r j hj => ⟨hj, fun p _ _ => ?_⟩
  unfold faultAt clearFaultMap
  rw [List.map_const', State.withPlan_plan, List.getD_eq_getElem?_getD, List.getElem?_getD_replicate_default_eq]
  rfl

/-- R64, R69: a job written from the row's diff. -/
theorem planOk_writeDiff (hs : StartOk s) (h : PlanOk s) (hr : r < rowCount s) (hne : ¬ (diff s r).isEmpty = true)
    {a : Nat} (h1 : 1 ≤ a) (h3 : a ≤ 3) : PlanOk (writeJob r (diff s r) a s) := by
  obtain ⟨jobs, config⟩ := h
  refine ⟨fun r' j hj => ?_, fun hl => absurd hl (hs.life_of_row hr)⟩
  rw [jobAt_writeJob] at hj
  split at hj
  · rename_i hrr
    obtain ⟨rfl, _⟩ := hrr
    obtain rfl := Option.some.inj hj
    exact jobOk_diff hs hr (by simpa using hne) h1 h3 _
  · exact jobs r' j hj

theorem planOk_rebuildRow (hs : StartOk s) (h : PlanOk s) (hr : r < rowCount s) : PlanOk (rebuildRow s r) := by
  unfold rebuildRow
  split
  · exact planOk_removeJob _ h
  · rename_i hne
    exact planOk_writeDiff hs h hr hne le_rfl (by decide)

theorem planOk_refreshRow (hs : StartOk s) (h : PlanOk s) (hr : r < rowCount s) : PlanOk (refreshRow s r) := by
  have attempt : 1 ≤ refreshAttempt s r ∧ refreshAttempt s r ≤ 3 := by
    unfold refreshAttempt
    split
    · decide
    · rename_i j hj
      obtain ⟨_, _, _, _, h1, h3⟩ := h.1 r j hj
      split
      · exact ⟨h1, h3⟩
      · decide
  unfold refreshRow
  split
  · exact planOk_removeJob _ h
  · rename_i hne
    exact planOk_writeDiff hs h hr hne attempt.1 attempt.2

theorem planOk_markWeak (pins : PinSet) (h : PlanOk s) : PlanOk (markWeak r pins s) := by
  refine planOk_of_fewer h rfl fun r' j hj => ⟨hj, fun p hp hs => ?_⟩
  unfold markWeak
  rw [faultAt_changeFaults _ _ hp]
  split
  · split
    · rfl
    · exact hs
  · exact hs

/-- R79: the row whose pins are given up loses its job; the map of the other rows stays. -/
theorem planOk_markStuck (m : Moves) (h : PlanOk s) : PlanOk (removeJob r (markStuck r m s)) := by
  refine planOk_of_fewer h rfl fun r' j hj => ?_
  rw [jobAt_removeJob] at hj
  split at hj
  · cases hj
  · rename_i hne
    refine ⟨hj, fun p hp hs => ?_⟩
    show (faultAt (markStuck r m s) r' p).isStuck = false
    unfold markStuck
    rw [faultAt_changeFaults _ _ hp, if_neg fun hr => hne hr.1.symm]
    exact hs

theorem planOk_recomputeRow (hs : StartOk s) (h : PlanOk s) (hr : r < rowCount s) (m : Moves) {a : Nat} (h1 : 1 ≤ a)
    (h3 : a ≤ 3) (v : Bool) : PlanOk (recomputeRow r m a v s) := by
  unfold recomputeRow
  split
  · unfold recomputeVoided
    dsimp only
    split
    · exact planOk_removeJob _ h
    · rename_i hne
      split
      · exact planOk_writeDiff hs h hr hne h1 h3
      · exact planOk_writeDiff hs h hr hne le_rfl (by decide)
  · have weak := planOk_markWeak (r := r) (movedHome s r m a) h
    have hs' : StartOk (markWeak r (movedHome s r m a) s) := hs
    have hr' : r < rowCount (markWeak r (movedHome s r m a) s) := hr
    generalize markWeak r (movedHome s r m a) s = u at weak hs' hr'
    unfold recomputeJob
    dsimp only
    split
    · exact planOk_removeJob _ weak
    · rename_i hne
      split
      · split
        · exact planOk_writeDiff hs' weak hr' hne (by omega) (by omega)
        · exact planOk_markStuck _ weak
      · exact planOk_writeDiff hs' weak hr' hne le_rfl (by decide)

end Plan

/-! ### The slots of the pipeline -/

/-- The rows of four slots, LOAD to SENSE. -/
def rowsOf (p : Pipeline) : List Nat := ([p.load, p.strike, p.settle, p.sense].filterMap id).map (·.row)

/-- R86: every slot is empty. -/
def Pipeline.Empty (p : Pipeline) : Prop := p.load = none ∧ p.strike = none ∧ p.settle = none ∧ p.sense = none

/-- R65, R70, R91: a legal snapshot for a rectangle of so many rows. -/
def Legal (rows : Nat) (x : Slot) : Prop :=
  x.row < rows ∧ x.moves.raise &&& x.moves.lower = 0#20 ∧ x.moves.isEmpty = false ∧ 1 ≤ x.attempt ∧ x.attempt ≤ 3 ∧
    x.cost = strikeCost x.moves x.level

/-- R86, R88, R91, R100, R102: the rules of the slots, for the closed lines, the rows of the rectangle and whether the
tile is on the link. -/
structure SlotRules (closed : Nat → Bool) (rows : Nat) (onLink : Bool) (p : Pipeline) : Prop where
  idle : p.engine = .idle → p.Empty
  off : onLink = false → p.engine = .idle
  load : allUnfired p.load
  settle : allFired p.settle
  sense : allFired p.sense
  fenced : p.engine = .fenced → p.load = none ∧ allFired p.strike
  nodup : (rowsOf p).Nodup
  loadOpen : ∀ x, p.load = some x → x.fired = false → closed (x.row / 4) = false
  strikeOpen : ∀ x, p.strike = some x → x.fired = false → closed (x.row / 4) = false
  legal : ∀ x, p.load = some x ∨ p.strike = some x ∨ p.settle = some x ∨ p.sense = some x → Legal rows x

section Slots
variable {s t : State}

theorem slotsEmpty_iff : slotsEmpty s = true ↔ s.pipe.Empty := by
  simp [slotsEmpty, Pipeline.Empty, and_assoc]

theorem slotsOk_iff : SlotsOk s ↔ SlotRules (lineClosed s) (rowCount s) (onTheLink s) s.pipe := by
  constructor
  · rintro ⟨a, b, c, d, e, f, g, h, i, j⟩
    exact ⟨fun hi => slotsEmpty_iff.mp (a hi), b, c, d, e, f, g, h, i, j⟩
  · rintro ⟨a, b, c, d, e, f, g, h, i, j⟩
    exact ⟨fun hi => slotsEmpty_iff.mpr (a hi), b, c, d, e, f, g, h, i, j⟩

end Slots

namespace SlotRules
variable {closed closed' : Nat → Bool} {rows : Nat} {onLink : Bool} {p : Pipeline} (h : SlotRules closed rows onLink p)
include h

/-- The rules read the slots and the engine alone. -/
theorem congr {q : Pipeline} (h1 : q.load = p.load) (h2 : q.strike = p.strike) (h3 : q.settle = p.settle)
    (h4 : q.sense = p.sense) (h5 : q.engine = p.engine) : SlotRules closed rows onLink q := by
  obtain ⟨ql, qs, qt, qn, qe, _, _⟩ := q
  dsimp only at h1 h2 h3 h4 h5
  subst h1 h2 h3 h4 h5
  obtain ⟨a, b, c, d, e, f, g, i, j, k⟩ := h
  exact ⟨a, b, c, d, e, f, g, i, j, k⟩

/-- Lines that open leave the rules as they are. -/
theorem opened (ho : ∀ l, closed' l = true → closed l = true) : SlotRules closed' rows onLink p :=
  { h with
    loadOpen := fun x hx hf => Bool.eq_false_iff.mpr fun hc => by simpa [h.loadOpen x hx hf] using ho _ hc
    strikeOpen := fun x hx hf => Bool.eq_false_iff.mpr fun hc => by simpa [h.strikeOpen x hx hf] using ho _ hc }

/-- Slots that have lost unfired rows. -/
theorem dropped {test : Nat → Bool} (hclosed : ∀ l, closed' l = true → closed l = true ∨ ∀ r, r / 4 = l → test r = true) :
    SlotRules closed' rows onLink
      { p with load := dropUnfired test p.load, strike := dropUnfired test p.strike } := by
  have kept {slot : Option Slot} {x : Slot} (hx : dropUnfired test slot = some x) :
      slot = some x ∧ (x.fired = false → test x.row = false) := by
    cases slot with
    | none => cases hx
    | some y =>
      unfold dropUnfired at hx
      dsimp only at hx
      split at hx
      · cases hx
      · rename_i hn
        obtain rfl := Option.some.inj hx
        exact ⟨rfl, fun hf => by simpa [hf] using hn⟩
  have stillOpen {slot : Option Slot} (open_ : ∀ x, slot = some x → x.fired = false → closed (x.row / 4) = false)
      {x : Slot} (hx : dropUnfired test slot = some x) (hf : x.fired = false) : closed' (x.row / 4) = false := by
    refine Bool.eq_false_iff.mpr fun hc => ?_
    obtain hc | hall := hclosed _ hc
    · simp [open_ x (kept hx).1 hf] at hc
    · have tested := hall x.row rfl
      simp [(kept hx).2 hf] at tested
  have fewer : (rowsOf { p with load := dropUnfired test p.load, strike := dropUnfired test p.strike }).Sublist
      (rowsOf p) := by
    have sub (slot : Option Slot) (l l' : List (Option Slot)) (hl : (l'.filterMap id).Sublist (l.filterMap id)) :
        ((dropUnfired test slot :: l').filterMap id).Sublist ((slot :: l).filterMap id) := by
      cases slot with
      | none => exact hl
      | some x =>
        unfold dropUnfired
        dsimp only
        split
        · exact hl.cons _
        · exact hl.cons_cons _
    exact (sub _ _ _ (sub _ _ _ (.refl _))).map _
  exact
    { idle := fun hi => by
        obtain ⟨h1, h2, h3⟩ := h.idle hi
        exact ⟨by simp [h1, dropUnfired], by simp [h2, dropUnfired], h3⟩
      off := h.off
      load := fun x hx => h.load x (kept hx).1
      settle := h.settle
      sense := h.sense
      fenced := fun hf => by
        obtain ⟨h1, h2⟩ := h.fenced hf
        exact ⟨by simp [h1, dropUnfired], fun x hx => h2 x (kept hx).1⟩
      nodup := h.nodup.sublist fewer
      loadOpen := fun x hx => stillOpen h.loadOpen hx
      strikeOpen := fun x hx => stillOpen h.strikeOpen hx
      legal := fun x hx => h.legal x (hx.imp (fun hx => (kept hx).1) (Or.imp (fun hx => (kept hx).1) id)) }

/-- R102: a fence drops every unfired row. -/
theorem fencing (hr : p.engine = .running) : SlotRules closed rows onLink
    { p with engine := .fenced, load := dropUnfired (fun _ => true) p.load
             strike := dropUnfired (fun _ => true) p.strike } := by
  have dropped := h.dropped (closed' := closed) (test := fun _ => true) fun l hl => .inl hl
  have on : onLink = true := by
    cases honl : onLink with
    | true => rfl
    | false => exact absurd (h.off honl) (by rw [hr]; decide)
  have noLoad : dropUnfired (fun _ => true) p.load = none := by
    cases hl : p.load with
    | none => rfl
    | some x => simp [dropUnfired, h.load x hl]
  have fired : allFired (dropUnfired (fun _ => true) p.strike) := by
    intro x hx
    cases hl : p.strike with
    | none => rw [hl] at hx; cases hx
    | some y =>
      rw [hl] at hx
      unfold dropUnfired at hx
      dsimp only at hx
      split at hx
      · cases hx
      · rename_i hn
        obtain rfl := Option.some.inj hx
        simpa using hn
  exact ⟨fun hi => (nomatch hi), fun ho => by simp [on] at ho, dropped.load, dropped.settle, dropped.sense,
    fun _ => ⟨noLoad, fired⟩, dropped.nodup, dropped.loadOpen, dropped.strikeOpen, dropped.legal⟩

/-- R91: an admission of a row that is not in flight, on an open line. -/
theorem admitted {x : Slot} (hon : onLink = true) (hr : p.engine = .running) (hl : p.load = none)
    (hx : x.fired = false) (hrow : x.row ∉ rowsOf p) (hopen : closed (x.row / 4) = false) (hlegal : Legal rows x) :
    SlotRules closed rows onLink { p with load := some x } where
  idle hi := absurd (hr.symm.trans hi) (by decide)
  off ho := by simp [hon] at ho
  load y hy := by obtain rfl := Option.some.inj hy; exact hx
  settle := h.settle
  sense := h.sense
  fenced hf := absurd (hr.symm.trans hf) (by decide)
  nodup := by
    have rows : rowsOf { p with load := some x } = x.row :: rowsOf p := by simp [rowsOf, hl]
    rw [rows]
    exact List.nodup_cons.mpr ⟨hrow, h.nodup⟩
  loadOpen y hy _ := by obtain rfl := Option.some.inj hy; exact hopen
  strikeOpen := h.strikeOpen
  legal y hy := by
    obtain hy | hy := hy
    · obtain rfl := Option.some.inj hy
      exact hlegal
    · exact h.legal y (.inr hy)

/-- R92: the engine starts, on the link. -/
theorem started (hon : onLink = true) :
    SlotRules closed rows onLink { p with engine := .running, stepTimer := some 0 } :=
  { h with
    idle := fun hi => nomatch hi
    off := fun ho => by simp [hon] at ho
    fenced := fun hf => nomatch hf }

theorem sensed : SlotRules closed rows onLink { p with sense := none } :=
  { h with
    idle := fun hi => ⟨(h.idle hi).1, (h.idle hi).2.1, (h.idle hi).2.2.1, rfl⟩
    sense := fun _ hx => nomatch hx
    nodup := by
      refine h.nodup.sublist (List.Sublist.map _ ?_)
      cases p.load <;> cases p.strike <;> cases p.settle <;> cases p.sense <;> simp
    legal := fun x hx => h.legal x (hx.imp_right (Or.imp_right (Or.imp_right fun hx => nomatch hx))) }

theorem settled {x : Slot} (hn : p.sense = none) (hs : p.settle = some x) :
    SlotRules closed rows onLink { p with settle := none, sense := some x } :=
  { h with
    idle := fun hi => by simp [(h.idle hi).2.2.1] at hs
    settle := fun _ hx => nomatch hx
    sense := fun y hy => h.settle y (hs.trans hy)
    nodup := by
      have rows : rowsOf { p with settle := none, sense := some x } = rowsOf p := by
        unfold rowsOf
        rw [hs, hn]
        cases p.load <;> cases p.strike <;> rfl
      rw [rows]
      exact h.nodup
    legal := fun y hy => by
      obtain hy | hy | hy | hy := hy
      · exact h.legal y (.inl hy)
      · exact h.legal y (.inr (.inl hy))
      · cases hy
      · exact h.legal y (.inr (.inr (.inl (hs.trans hy)))) }

theorem struck {x : Slot} (hn : p.settle = none) (hs : p.strike = some x) (hf : x.fired = true) :
    SlotRules closed rows onLink { p with strike := none, settle := some x } :=
  { h with
    idle := fun hi => by simp [(h.idle hi).2.1] at hs
    settle := fun y hy => by obtain rfl := Option.some.inj hy; exact hf
    fenced := fun he => ⟨(h.fenced he).1, fun _ hx => nomatch hx⟩
    nodup := by
      have rows : rowsOf { p with strike := none, settle := some x } = rowsOf p := by
        unfold rowsOf
        rw [hs, hn]
        cases p.load <;> cases p.sense <;> rfl
      rw [rows]
      exact h.nodup
    strikeOpen := fun _ hx => nomatch hx
    legal := fun y hy => by
      obtain hy | hy | hy | hy := hy
      · exact h.legal y (.inl hy)
      · cases hy
      · exact h.legal y (.inr (.inl (hs.trans hy)))
      · exact h.legal y (.inr (.inr (.inr hy))) }

theorem entered {x : Slot} (hl : p.load = some x) (hn : p.strike = none) :
    SlotRules closed rows onLink { p with load := none, strike := some x } :=
  { h with
    idle := fun hi => by simp [(h.idle hi).1] at hl
    load := fun _ hx => nomatch hx
    fenced := fun he => by simp [(h.fenced he).1] at hl
    nodup := by
      have rows : rowsOf { p with load := none, strike := some x } = rowsOf p := by
        unfold rowsOf
        rw [hl, hn]
        cases p.settle <;> cases p.sense <;> rfl
      rw [rows]
      exact h.nodup
    loadOpen := fun _ hx => nomatch hx
    strikeOpen := fun y hy => h.loadOpen y (hl.trans hy)
    legal := fun y hy => by
      obtain hy | hy | hy := hy
      · cases hy
      · exact h.legal y (.inl (hl.trans hy))
      · exact h.legal y (.inr (.inr hy)) }

theorem fired {x : Slot} (hs : p.strike = some x) (m : Option Pulse) :
    SlotRules closed rows onLink { p with strike := some { x with fired := true }, matrix := m } :=
  { h with
    idle := fun hi => by simp [(h.idle hi).2.1] at hs
    fenced := fun he => ⟨(h.fenced he).1, fun y hy => by obtain rfl := Option.some.inj hy; rfl⟩
    nodup := by
      have rows : rowsOf { p with strike := some { x with fired := true }, matrix := m } = rowsOf p := by
        unfold rowsOf
        rw [hs]
        cases p.load <;> cases p.settle <;> cases p.sense <;> rfl
      rw [rows]
      exact h.nodup
    strikeOpen := fun y hy hf => by obtain rfl := Option.some.inj hy; cases hf
    legal := fun y hy => by
      obtain hy | hy | hy := hy
      · exact h.legal y (.inl hy)
      · obtain rfl := Option.some.inj hy
        exact h.legal x (.inr (.inl hs))
      · exact h.legal y (.inr (.inr hy)) }

/-- R96: a fence lifts. -/
theorem lifted (hf : p.engine = .fenced) :
    SlotRules closed rows onLink { p with engine := .running } :=
  { h with
    idle := fun hi => nomatch hi
    off := fun ho => absurd (hf.symm.trans (h.off ho)) (by decide)
    fenced := fun hf => nomatch hf }

/-- R96: with every slot empty the engine stops. -/
theorem stopped (he : p.Empty) : SlotRules closed rows onLink { p with engine := .idle, stepTimer := none } :=
  { h with
    idle := fun _ => he
    off := fun _ => rfl
    fenced := fun hf => nomatch hf }

end SlotRules

/-- Empty slots meet the rules wherever the rectangle and the lines lie. -/
theorem slotRules_empty {closed : Nat → Bool} {rows : Nat} {onLink : Bool} {p : Pipeline} (he : p.Empty)
    (hi : p.engine = .idle) : SlotRules closed rows onLink p := by
  obtain ⟨h1, h2, h3, h4⟩ := he
  refine ⟨fun _ => ⟨h1, h2, h3, h4⟩, fun _ => hi, fun x hx => ?_, fun x hx => ?_, fun x hx => ?_,
    fun hf => absurd (hi.symm.trans hf) (by decide), by simp [rowsOf, h1, h2, h3, h4], fun x hx => ?_, fun x hx => ?_,
    fun x hx => ?_⟩ <;> simp [h1, h2, h3, h4] at hx

end Sys2Proof.Machine
end

section
/-!
The plan and the pipeline through every event: `CoreOk` is kept by each elementary operation (R64 to R79, R86 to R102,
R145 to R147), so by every event.
-/

namespace Sys2Proof.Machine

/-- The start-up block, the plan and the slots are as their rules say. -/
structure CoreOk (s : State) : Prop where
  start : StartOk s
  plan : PlanOk s
  slots : SlotRules (lineClosed s) (rowCount s) (onTheLink s) s.pipe

section Core
variable {s t : State}

theorem coreOk_iff : CoreOk s ↔ StartOk s ∧ PlanOk s ∧ SlotsOk s := by
  rw [slotsOk_iff]
  exact ⟨fun ⟨a, b, c⟩ => ⟨a, b, c⟩, fun ⟨a, b, c⟩ => ⟨a, b, c⟩⟩

theorem slotRules_congr (h : SlotRules (lineClosed s) (rowCount s) (onTheLink s) s.pipe) (hstart : t.start = s.start)
    (hlines : t.touch.lines = s.touch.lines) (hpipe : t.pipe = s.pipe) :
    SlotRules (lineClosed t) (rowCount t) (onTheLink t) t.pipe := by
  rwa [funext (lineClosed_congr hlines), rowCount_congr hstart, onTheLink_congr hstart, hpipe]

theorem CoreOk.congr (h : CoreOk s) (hstart : t.start = s.start) (hplan : t.plan = s.plan) (hpipe : t.pipe = s.pipe)
    (hlines : t.touch.lines = s.touch.lines) : CoreOk t :=
  ⟨h.start.congr hstart, h.plan.congr hstart hplan, slotRules_congr h.slots hstart hlines hpipe⟩

theorem CoreOk.of_changes {bs : List Block} (h : CoreOk s) (c : Changes bs s t) (hs : Block.start ∉ bs := by decide)
    (hp : Block.plan ∉ bs := by decide) (hi : Block.pipe ∉ bs := by decide) (ht : Block.touch ∉ bs := by decide) :
    CoreOk t := h.congr (c.start hs) (c.plan hp) (c.pipe hi) (by rw [c.touch ht])

/-- A plan operation leaves the slots alone. -/
theorem CoreOk.of_plan (h : CoreOk s) (c : Changes [.plan] s t) (hp : PlanOk t) : CoreOk t :=
  ⟨h.start.of_changes c, hp, slotRules_congr h.slots c.start (by rw [c.touch]) c.pipe⟩

/-- A pipeline operation leaves the plan and the lines alone. -/
theorem CoreOk.of_pipe (h : CoreOk s) {p : Pipeline} (hp : SlotRules (lineClosed s) (rowCount s) (onTheLink s) p) :
    CoreOk (s.withPipe p) := ⟨h.start.congr rfl, h.plan.congr rfl rfl, hp⟩

theorem CoreOk.judgeHold (h : CoreOk s) : CoreOk (judgeHold s) := by
  have c := changes_judgeHold s
  exact h.congr c.start c.plan c.pipe (by rw [judgeHold_touch])

theorem CoreOk.withTouch (h : CoreOk s) {x : Touch} (hx : x.lines = s.touch.lines) : CoreOk (s.withTouch x) :=
  h.congr rfl rfl rfl hx

theorem CoreOk.startDrift (h : CoreOk s) : CoreOk (startDrift s) := by
  unfold Machine.startDrift
  split
  · exact h.withTouch rfl
  · exact h

/-! ### Admission -/

/-- R90: an eligible row has a job, is in no slot, and its line is open. -/
theorem eligible_iff {r : Nat} : eligible s r = true ↔
    (jobAt s r).isSome = true ∧ inFlight s r = false ∧ lineClosed s (r / 4) = false := by
  simp [eligible, and_assoc]

theorem inFlight_iff {r : Nat} : inFlight s r = true ↔ r ∈ rowsOf s.pipe := by
  unfold inFlight rowsOf
  cases s.pipe.load <;> cases s.pipe.strike <;> cases s.pipe.settle <;> cases s.pipe.sense <;>
    simp [slotHas, @eq_comm Nat r, or_assoc]

theorem eligibleRow_eligible {r : Nat} (h : eligibleRow s = some r) : eligible s r = true := List.find?_some h

theorem CoreOk.admitRow (h : CoreOk s) (hr : s.pipe.engine = .running) : CoreOk (admitRow s) := by
  unfold Machine.admitRow
  split
  · rename_i r hl he
    obtain ⟨_, free, lineOpen⟩ := eligible_iff.mp (eligibleRow_eligible he)
    split
    · rename_i j hj
      obtain ⟨hrow, disjoint, nonempty, _, h1, h3⟩ := h.plan.1 r j hj
      have on : onTheLink s = true := by
        cases ho : onTheLink s with
        | true => rfl
        | false => exact absurd (h.slots.off ho) (by rw [hr]; decide)
      refine h.of_pipe (h.slots.admitted (x := snapshot r j) on hr hl rfl ?_ lineOpen
        ⟨hrow, disjoint, nonempty, h1, h3, rfl⟩)
      rw [← inFlight_iff]
      exact Bool.eq_false_iff.mp free
    · exact h
  · exact h

theorem CoreOk.lookForRow (h : CoreOk s) : CoreOk (lookForRow s) := by
  unfold Machine.lookForRow
  split
  · rename_i hc
    obtain ⟨_, on, _⟩ := hc
    have running : CoreOk (s.withPipe { s.pipe with engine := .running, stepTimer := some 0 }) :=
      h.of_pipe (h.slots.started on)
    exact (running.admitRow rfl).withTouch rfl
  · exact h

/-! ### Lines that close and open -/

theorem lineClosed_changeLine (l l' : Nat) (f : LineGuard → LineGuard) : lineClosed (changeLine l f s) l' =
    if l = l' then (match s.touch.lines[l']? with | none => false | some g => (f g).closed) else lineClosed s l' := by
  unfold lineClosed changeLine
  rw [State.withTouch_touch, List.getElem?_modify]
  by_cases h : l = l'
  · subst h
    simp only [if_true]
    cases s.touch.lines[l]? <;> rfl
  · simp only [if_neg h]
    cases s.touch.lines[l']? <;> rfl

theorem lineClosed_withdrawLine (l l' : Nat) : lineClosed (withdrawLine l s) l' = lineClosed s l' := rfl

/-- A line that closes takes its unfired rows out of the pipeline. -/
theorem CoreOk.lineCloses {closed : Nat → Bool} (l : Nat) (hs : StartOk s) (hp : PlanOk s)
    (h : SlotRules closed (rowCount s) (onTheLink s) s.pipe)
    (hc : ∀ l', lineClosed s l' = true → closed l' = true ∨ l' = l) : CoreOk (lineCloses l s) := by
  refine CoreOk.judgeHold ⟨hs.congr rfl, hp.congr rfl rfl, ?_⟩
  refine h.dropped (test := fun r => r / 4 == l) fun l' hl' => ?_
  obtain hl' | rfl := hc l' hl'
  · exact .inl hl'
  · exact .inr fun r hr => by simpa using hr

theorem CoreOk.guardEvent (l : Nat) (f : LineGuard → LineGuard) (h : CoreOk s) : CoreOk (guardEvent l f s) := by
  have other (l' : Nat) (hne : l' ≠ l) : lineClosed (changeLine l f s) l' = lineClosed s l' := by
    rw [lineClosed_changeLine, if_neg (Ne.symm hne)]
  unfold Machine.guardEvent
  dsimp only
  split
  · rename_i same
    refine ⟨h.start.congr rfl, h.plan.congr rfl rfl, h.slots.opened fun l' hl' => ?_⟩
    by_cases hl : l' = l
    · subst hl
      rwa [← same] at hl'
    · rwa [other l' hl] at hl'
  · split
    · refine CoreOk.lineCloses l (h.start.congr rfl) (h.plan.congr rfl rfl) h.slots fun l' hl' => ?_
      by_cases hl : l' = l
      · exact .inr hl
      · rw [other l' hl] at hl'
        exact .inl hl'
    · rename_i opened
      refine CoreOk.judgeHold (CoreOk.lookForRow
        ⟨h.start.congr rfl, h.plan.congr rfl rfl, h.slots.opened fun l' hl' => ?_⟩)
      by_cases hl : l' = l
      · rw [hl] at hl'
        exact absurd hl' opened
      · rwa [other l' hl] at hl'

theorem closed_presenceExpires {g : LineGuard} (h : g.presenceExpires.closed = true) : g.closed = true := by
  unfold LineGuard.presenceExpires at h
  split at h
  · simp [LineGuard.closed] at h
  · exact h

theorem CoreOk.presenceExpires (l : Nat) (h : CoreOk s) : CoreOk (changeLine l LineGuard.presenceExpires s) := by
  refine ⟨h.start.congr rfl, h.plan.congr rfl rfl, h.slots.opened fun l' hl' => ?_⟩
  rw [lineClosed_changeLine] at hl'
  split at hl'
  · unfold lineClosed
    cases hg : s.touch.lines[l']? with
    | none => simp [hg] at hl'
    | some g => simp only [hg] at hl'; exact closed_presenceExpires hl'
  · exact hl'

/-! ### The FAILED flags cleared -/

/-- R147: the tile with every FAILED flag cleared, the lines that close by it not yet handed on. -/
def flagsCleared (s : State) : State := s.withTouch { s.touch with lines := s.touch.lines.map LineGuard.clearFailed }

theorem lineClosed_flagsCleared (l : Nat) : lineClosed (flagsCleared s) l = (lineClosed s l || recloses s l) := by
  unfold lineClosed recloses flagsCleared
  rw [State.withTouch_touch, List.getElem?_map]
  cases s.touch.lines[l]? with
  | none => rfl
  | some g =>
    simp only [Option.map_some, LineGuard.clearFailed, LineGuard.closed, LineGuard.guarded]
    cases hf : g.failed <;> simp [hf]

/-- The core's rules, but for the lines `L`, whose closing has not been handed on. -/
structure CoreBut (L : List Nat) (s : State) : Prop where
  start : StartOk s
  plan : PlanOk s
  slots : SlotRules (fun l => lineClosed s l && decide (l ∉ L)) (rowCount s) (onTheLink s) s.pipe

theorem CoreBut.congr {L : List Nat} (h : CoreBut L s) (hstart : t.start = s.start) (hplan : t.plan = s.plan)
    (hpipe : t.pipe = s.pipe) (hlines : t.touch.lines = s.touch.lines) : CoreBut L t := by
  refine ⟨h.start.congr hstart, h.plan.congr hstart hplan, ?_⟩
  have slots := h.slots
  rwa [rowCount_congr hstart, onTheLink_congr hstart, hpipe, funext (lineClosed_congr hlines)]

theorem CoreBut.of_changes {L : List Nat} {bs : List Block} (h : CoreBut L s) (c : Changes bs s t)
    (hs : Block.start ∉ bs := by decide) (hp : Block.plan ∉ bs := by decide) (hi : Block.pipe ∉ bs := by decide)
    (ht : Block.touch ∉ bs := by decide) : CoreBut L t :=
  h.congr (c.start hs) (c.plan hp) (c.pipe hi) (by rw [c.touch ht])

theorem coreBut_nil : CoreBut [] s ↔ CoreOk s := by
  have same : (fun l => lineClosed s l && decide (l ∉ ([] : List Nat))) = lineClosed s := by simp
  exact ⟨fun ⟨a, b, c⟩ => ⟨a, b, same ▸ c⟩, fun ⟨a, b, c⟩ => ⟨a, b, same.symm ▸ c⟩⟩

/-- An IDLE engine starts on an open line, whichever closings are still to be handed on. -/
theorem CoreBut.lookForRow {L : List Nat} (h : CoreBut L s) : CoreBut L (lookForRow s) := by
  unfold Machine.lookForRow
  split
  · rename_i hc
    obtain ⟨hi, on, he⟩ := hc
    obtain ⟨r, hr⟩ := Option.isSome_iff_exists.mp he
    obtain ⟨hjob, free, lineOpen⟩ := eligible_iff.mp (eligibleRow_eligible hr)
    obtain ⟨j, hj⟩ := Option.isSome_iff_exists.mp hjob
    obtain ⟨hrow, disjoint, nonempty, _, h1, h3⟩ := h.plan.1 r j hj
    have noLoad := (h.slots.idle hi).1
    rw [admitRow_some (s.withPipe { s.pipe with engine := .running, stepTimer := some 0 }) (r := r) (j := j) noLoad hr hj]
    refine ⟨h.start.congr rfl, h.plan.congr rfl rfl, ?_⟩
    refine (h.slots.started on).admitted (x := snapshot r j) on rfl noLoad rfl ?_ ?_
      ⟨hrow, disjoint, nonempty, h1, h3, rfl⟩
    · show r ∉ rowsOf s.pipe
      rw [← inFlight_iff]
      exact Bool.eq_false_iff.mp free
    · show (lineClosed s (r / 4) && _) = false
      rw [lineOpen, Bool.false_and]
  · exact h

theorem coreBut_work {L : List Nat} : KeptByWork (CoreBut L) where
  setPattern h := h.of_changes (changes_setPattern _)
  refreshRow {s r} hr h := by
    have c := changes_refreshRow s r
    exact ⟨h.start.of_changes c, planOk_refreshRow h.start h.plan (h.start.statusRow_lt hr), by
      have slots := h.slots
      rwa [rowCount_congr c.start, onTheLink_congr c.start, c.pipe,
        funext (lineClosed_congr (s := s) (t := Machine.refreshRow s r) (by rw [c.touch]))]⟩
  lookForRow h := h.lookForRow
  judgeHold {s} h := by
    have c := changes_judgeHold s
    exact h.congr c.start c.plan c.pipe (by rw [judgeHold_touch])
  settled _ h := h.of_changes changes_settledAndAnnounced

theorem reclosed_mem {l : Nat} (h : recloses s l = true) : l ∈ reclosedLines s := by
  refine List.mem_filter.mpr ⟨List.mem_range.mpr ?_, h⟩
  unfold recloses at h
  cases hg : s.touch.lines[l]? with
  | none => simp [hg] at h
  | some g => exact (List.getElem?_eq_some_iff.mp hg).1

theorem CoreBut.closings {L : List Nat} (h : CoreBut L s) : CoreOk (L.foldl (fun t l => lineCloses l t) s) := by
  induction L generalizing s with
  | nil => exact coreBut_nil.mp h
  | cons l L ih =>
    refine ih ⟨?_, ?_, ?_⟩
    · exact (h.start.congr rfl).of_changes (changes_lineCloses l s)
    · exact h.plan.of_changes (changes_lineCloses l s)
    · have dropped := h.slots.dropped (closed' := fun l' => lineClosed s l' && decide (l' ∉ L))
        (test := fun r => r / 4 == l) fun l' hl' => by
          simp only [Bool.and_eq_true, decide_eq_true_eq] at hl' ⊢
          by_cases hl : l' = l
          · exact .inr fun r hr => by simpa [hl] using hr
          · exact .inl ⟨hl'.1, by simp [hl, hl'.2]⟩
      have c := changes_judgeHold (withdrawLine l s)
      unfold Machine.lineCloses
      rw [c.pipe, rowCount_congr c.start, onTheLink_congr c.start,
        funext (lineClosed_congr (s := withdrawLine l s) (by rw [judgeHold_touch]))]
      exact dropped

theorem CoreOk.clearStrips (h : CoreOk s) : CoreOk (clearStrips s) := by
  unfold Machine.clearStrips
  split
  · have cleared : CoreBut (reclosedLines s) (flagsCleared s) := by
      refine ⟨h.start.congr rfl, h.plan.congr rfl rfl, h.slots.opened fun l hl => ?_⟩
      simp only [Bool.and_eq_true, decide_eq_true_eq, lineClosed_flagsCleared, Bool.or_eq_true] at hl
      exact hl.1.resolve_right fun hr => hl.2 (reclosed_mem hr)
    exact CoreBut.closings (coreBut_work.recomputePattern cleared)
  · exact h

/-! ### Every event -/

theorem coreOk_reset (hstart : t.start.life = .config ∧ t.start.settings = none ∧ t.start.joinTimer = none)
    (hplan : t.plan = State.reset.plan) (hpipe : t.pipe = State.reset.pipe) : CoreOk t := by
  obtain ⟨h1, h2, h3⟩ := hstart
  have noJobs (r : Nat) : jobAt t r = none := by
    rw [← jobAt_reset r]
    exact jobAt_congr (s := State.reset) hplan r
  refine ⟨⟨by simp [h1, h2], by simp [h1, h3], fun c hc => by simp [h2] at hc⟩,
    ⟨fun r j hj => by simp [noJobs] at hj, fun _ => planEmpty_iff.mpr noJobs⟩, ?_⟩
  rw [hpipe]
  exact slotRules_empty ⟨rfl, rfl, rfl, rfl⟩ rfl

theorem coreOk_plantWork : KeptByPlantWork CoreOk where
  refreshRow hr h := h.of_plan (changes_refreshRow _ _) (planOk_refreshRow h.start h.plan (h.start.statusRow_lt hr))
  rebuildRow hr h := h.of_plan (changes_rebuildRow _ _) (planOk_rebuildRow h.start h.plan hr)
  emptyPlan h := h.of_plan (changes_emptyPlan _) (planOk_emptyPlan h.plan)
  clearFaultMap h := h.of_plan (changes_clearFaultMap _) (planOk_clearFaultMap h.plan)
  lookForRow h := h.lookForRow
  fence h := by
    unfold fence
    split
    · rename_i hr
      exact h.of_pipe (h.slots.fencing hr)
    · exact h
    · exact h
  judgeHold h := h.judgeHold
  resetHold _ h := h.withTouch rfl
  holdLimit h := h.withTouch rfl
  rotation _ h := h.withTouch rfl
  driftRestarts _ h := h.withTouch rfl
  guardEvent l f _ h := h.guardEvent l f
  presenceExpires l h := h.presenceExpires l
  stepRestarts _ h := h.of_pipe (h.slots.congr rfl rfl rfl rfl rfl)
  sensed v hx h := by
    obtain ⟨hrow, _, _, h1, h3, _⟩ := h.slots.legal _ (.inr (.inr (.inr hx)))
    have emptied := h.of_pipe h.slots.sensed
    exact emptied.of_plan (changes_recomputeRow _ _ _ _ _)
      (planOk_recomputeRow emptied.start emptied.plan hrow _ h1 h3 v)
  settleStage hn h := by
    unfold settleStage
    split
    · exact h
    · rename_i x hx
      exact h.of_pipe (h.slots.settled hn hx)
  strikeStage hn h := by
    unfold strikeStage
    split
    · exact h
    · rename_i x hx
      split
      · rename_i hf
        exact h.of_pipe (h.slots.struck hn hx hf)
      · exact h
  entersStrike hl hn h := h.of_pipe (h.slots.entered hl hn)
  fires hs _ h := h.of_pipe (h.slots.fired hs _)
  admits hr h := h.admitRow hr
  fenceLifts _ hf h := h.of_pipe (h.slots.lifted hf)
  stops he h := (h.of_pipe (h.slots.stopped (slotsEmpty_iff.mp he))).startDrift

/-- A life state on the link, entered with settings in force. -/
theorem CoreOk.of_life {x : StartUp} (h : CoreOk s) (hsettings : x.settings = s.start.settings)
    (hl : s.start.life ≠ .config) (hlife : x.life = .listening ∨ x.life = .joined)
    (hjoin : x.joinTimer.isSome = true ↔ x.life = .listening) : CoreOk (s.withStart x) := by
  obtain ⟨config, _, inRange⟩ := h.start
  have on : onTheLink (s.withStart x) = true := by
    obtain hx | hx := hlife <;> simp [onTheLink, hx]
  have notConfig : x.life ≠ .config := by
    obtain hx | hx := hlife <;> simp [hx]
  have rows : rowCount (s.withStart x) = rowCount s := by simp only [rowCount, lineCount, State.withStart_start, hsettings]
  have cols : colCount (s.withStart x) = colCount s := by simp only [colCount, cellCount, State.withStart_start, hsettings]
  refine ⟨⟨?_, hjoin, fun c hc => inRange c (hsettings ▸ hc)⟩, ⟨fun r j hj => ?_, fun hc => absurd hc notConfig⟩, ?_⟩
  · rw [State.withStart_start, hsettings, ← config]
    exact ⟨fun hc => absurd hc notConfig, fun hc => absurd hc hl⟩
  · obtain ⟨a, b, c, d, e⟩ := h.plan.1 r j hj
    refine ⟨by rwa [rows], b, c, fun p hp => ?_, e⟩
    rw [cols]
    unfold faultAt
    rw [cols]
    exact d p hp
  · rw [on, rows]
    have slots := h.slots
    exact { slots with off := fun ho => nomatch ho }

theorem coreOk_events : KeptByEvents CoreOk where
  side c h := h.of_changes c.changes
  share c h := h.of_changes c
  linkWork := keptByLinkWork_of_changes fun c h => h.of_changes c
  plantWork := coreOk_plantWork
  clearStrips h := h.clearStrips
  powerOn _ _ := coreOk_reset ⟨rfl, rfl, rfl⟩ rfl rfl
  holdReset _ := coreOk_reset ⟨rfl, rfl, rfl⟩ rfl rfl
  endConfig {s} memory strips hl h := by
    have off : onTheLink s = false := by simp [onTheLink, hl]
    have idle : s.pipe.engine = .idle := h.slots.off off
    have noJobs : ∀ r, jobAt s r = none := planEmpty_iff.mp (h.plan.2 hl)
    refine ⟨⟨by simp [endConfig], ?_, fun c hc => ?_⟩, ⟨fun r j hj => ?_, fun hc => nomatch hc⟩,
      slotRules_empty (h.slots.idle idle) idle⟩
    · have noTimer := h.start.2.1
      rw [hl] at noTimer
      exact ⟨fun ht => (nomatch noTimer.mp ht), fun hx => (nomatch hx)⟩
    · obtain rfl : settingsOf s.start.straps memory = c := Option.some.inj hc
      exact settingsOk_settingsOf _ _
    · have none : jobAt (endConfig memory strips s) r = none := noJobs r
      rw [none] at hj
      cases hj
  listening {s} hl _ h := (h.of_life (x := { s.start with life := .listening, joinTimer := some 0 }) rfl hl (.inl rfl)
    (by simp)).withTouch rfl
  enterJoined {s} hd h := by
    have listening : s.start.life = .listening := by
      refine h.start.2.1.mp ?_
      cases hj : s.start.joinTimer with
      | none => rw [hj] at hd; cases hd
      | some n => rfl
    have joined : CoreOk (s.withStart { s.start with life := .joined, joinTimer := none }) :=
      h.of_life rfl (by rw [listening]; decide) (.inr rfl) (by simp)
    exact CoreOk.startDrift (((joined.of_changes (changes_tryContend _)).of_changes
      (changes_recomputeAllowance _)).of_changes (changes_judgeRise _))
  passTime {s} h := by
    obtain ⟨config, join, inRange⟩ := h.start
    refine ⟨⟨config, ?_, inRange⟩, h.plan, ?_⟩
    · show (Timer.tick joinPeriod s.start.joinTimer).isSome = true ↔ _
      rw [Timer.tick, Option.isSome_map]
      exact join
    · have closed : lineClosed (passTime s) = lineClosed s := by
        funext l
        show (match (s.touch.lines.map LineGuard.tick)[l]? with | none => false | some g => g.closed) = lineClosed s l
        unfold lineClosed
        rw [List.getElem?_map]
        cases s.touch.lines[l]? <;> rfl
      rw [closed]
      exact h.slots.congr rfl rfl rfl rfl rfl

end Core

end Sys2Proof.Machine
end

section
/-!
The engine's timers (R87, R151) and the touch guard's lines and hold time (R142, R146, R148) through every event.
-/

namespace Sys2Proof.Machine

/-! ### The timers of the engine -/

section Engine
variable {s t : State}

theorem EngineOk.congr (h : EngineOk s) (hlife : t.start.life = s.start.life)
    (hengine : t.pipe.engine = .idle ↔ s.pipe.engine = .idle)
    (hstep : t.pipe.stepTimer.isSome = s.pipe.stepTimer.isSome)
    (hdrift : t.touch.driftTimer.isSome = s.touch.driftTimer.isSome) : EngineOk t := by
  obtain ⟨step, drift⟩ := h
  exact ⟨by rw [hstep, step, ne_eq, ne_eq, hengine], by rw [hdrift, drift, hlife, hengine]⟩

theorem EngineOk.of_changes {bs : List Block} (h : EngineOk s) (c : Changes bs s t)
    (hs : Block.start ∉ bs := by decide) (hi : Block.pipe ∉ bs := by decide) (ht : Block.touch ∉ bs := by decide) :
    EngineOk t := by
  have pipe := c.pipe hi
  exact h.congr (by rw [c.start hs]) (by rw [pipe]) (by rw [pipe]) (by rw [c.touch ht])

/-- A change of the slots alone. -/
theorem EngineOk.withPipe {p : Pipeline} (h : EngineOk s) (hengine : p.engine = s.pipe.engine)
    (hstep : p.stepTimer.isSome = s.pipe.stepTimer.isSome) : EngineOk (s.withPipe p) :=
  h.congr rfl (by rw [State.withPipe_pipe, hengine]) hstep rfl

/-- A change of the touch guard that keeps whether the drift timer runs. -/
theorem EngineOk.withTouch {x : Touch} (h : EngineOk s) (hdrift : x.driftTimer.isSome = s.touch.driftTimer.isSome) :
    EngineOk (s.withTouch x) := h.congr rfl Iff.rfl rfl hdrift

theorem EngineOk.judgeHold (h : EngineOk s) : EngineOk (judgeHold s) := by
  have c := changes_judgeHold s
  have pipe := c.pipe
  exact h.congr (by rw [c.start]) (by rw [pipe]) (by rw [pipe]) (by rw [judgeHold_touch])

theorem EngineOk.admitRow (h : EngineOk s) : EngineOk (admitRow s) := by
  unfold Machine.admitRow
  split
  · split
    · exact h.withPipe rfl rfl
    · exact h
  · exact h

/-- R87, R105: an engine that leaves IDLE starts its step timer and stops the drift timer. -/
theorem engineOk_started (h : s.pipe.engine = .running) (ht : s.pipe.stepTimer.isSome = true) : EngineOk (stopDrift s) :=
  ⟨by simp [stopDrift, h, ht], by simp [stopDrift, h]⟩

theorem EngineOk.lookForRow (h : EngineOk s) : EngineOk (lookForRow s) := by
  unfold Machine.lookForRow
  split
  · unfold Machine.admitRow
    split
    · split
      · exact engineOk_started rfl rfl
      · exact engineOk_started rfl rfl
    · exact engineOk_started rfl rfl
  · exact h

theorem EngineOk.guardEvent (l : Nat) (f : LineGuard → LineGuard) (h : EngineOk s) : EngineOk (guardEvent l f s) := by
  have changed : EngineOk (changeLine l f s) := h.withTouch rfl
  unfold Machine.guardEvent
  dsimp only
  split
  · exact changed
  · split
    · exact EngineOk.judgeHold (changed.withPipe rfl rfl)
    · exact changed.lookForRow.judgeHold

/-- R151: a JOINED tile whose engine is IDLE has its drift timer running after it is started. -/
theorem engineOk_startDrift (hstep : s.pipe.stepTimer.isSome = true ↔ s.pipe.engine ≠ .idle)
    (hdrift : s.touch.driftTimer.isSome = true → s.start.life = .joined ∧ s.pipe.engine = .idle) :
    EngineOk (startDrift s) := by
  unfold startDrift
  split
  · rename_i hc
    obtain ⟨joined, idle, -⟩ := hc
    exact ⟨hstep, by simp [joined, idle]⟩
  · rename_i hc
    refine ⟨hstep, hdrift, fun ⟨joined, idle⟩ => ?_⟩
    cases hd : s.touch.driftTimer with
    | none => exact absurd ⟨joined, idle, hd⟩ hc
    | some n => rfl

theorem engineOk_reset : EngineOk State.reset := by
  unfold EngineOk
  decide

theorem engineOk_plantWork : KeptByPlantWork EngineOk where
  refreshRow _ h := h.of_changes (changes_refreshRow _ _)
  rebuildRow _ h := h.of_changes (changes_rebuildRow _ _)
  emptyPlan h := h.of_changes (changes_emptyPlan _)
  clearFaultMap h := h.of_changes (changes_clearFaultMap _)
  lookForRow h := h.lookForRow
  fence {s} h := by
    unfold fence
    split
    · rename_i hr
      exact h.congr rfl (by simp [hr]) rfl rfl
    · exact h
    · exact h
  judgeHold h := h.judgeHold
  resetHold _ h := h.withTouch rfl
  holdLimit h := h.withTouch rfl
  rotation _ h := h.withTouch rfl
  driftRestarts {s} hd h := by
    refine h.withTouch ?_
    cases ht : s.touch.driftTimer with
    | none => rw [ht] at hd; cases hd
    | some n => rfl
  guardEvent l _ _ h := h.guardEvent l _
  presenceExpires _ h := h.withTouch rfl
  stepRestarts {s} hd h := by
    refine h.withPipe rfl ?_
    cases ht : s.pipe.stepTimer with
    | none => rw [ht] at hd; cases hd
    | some n => rfl
  sensed {s x} v _ h := by
    have emptied : EngineOk (s.withPipe { s.pipe with sense := none }) := h.withPipe rfl rfl
    exact emptied.of_changes (changes_recomputeRow _ _ _ _ _)
  settleStage {s} _ h := by
    unfold settleStage
    split
    · exact h
    · exact h.withPipe rfl rfl
  strikeStage {s} _ h := by
    unfold strikeStage
    split
    · exact h
    · split
      · exact h.withPipe rfl rfl
      · exact h
  entersStrike _ _ h := h.withPipe rfl rfl
  fires _ _ h := h.withPipe rfl rfl
  admits _ h := h.admitRow
  fenceLifts _ hf h := h.congr rfl (by simp [hf]) rfl rfl
  stops _ h := engineOk_startDrift (by simp) fun hd => ⟨(h.2.mp hd).1, rfl⟩

theorem engineOk_events : KeptByEvents EngineOk where
  side c h := h.of_changes c.changes
  share c h := h.of_changes c
  linkWork := keptByLinkWork_of_changes fun c h => h.of_changes c
  plantWork := engineOk_plantWork
  clearStrips := clearStrips_keeps
    { setPattern := fun h => h.of_changes (changes_setPattern _)
      refreshRow := fun _ h => h.of_changes (changes_refreshRow _ _)
      lookForRow := fun h => h.lookForRow
      judgeHold := fun h => h.judgeHold
      settled := fun _ h => h.of_changes changes_settledAndAnnounced }
    (fun h => h.withTouch rfl) (fun _ h => EngineOk.judgeHold (h.withPipe rfl rfl))
  powerOn _ _ := (engineOk_reset.congr rfl Iff.rfl rfl rfl)
  holdReset _ := (engineOk_reset.congr rfl Iff.rfl rfl rfl)
  endConfig memory strips hl h := by
    obtain ⟨step, drift⟩ := h
    refine ⟨step, ?_⟩
    rw [hl] at drift
    exact ⟨fun ht => (nomatch (drift.mp ht).1), fun hx => (nomatch hx.1)⟩
  listening _ _ h := ⟨h.1, by simp⟩
  enterJoined {s} _ h := by
    have c : Changes [.link, .draws, .rail]
        (s.withStart { s.start with life := .joined, joinTimer := none })
        (judgeRise (recomputeAllowance (tryContend (s.withStart { s.start with life := .joined, joinTimer := none })))) :=
      ((changes_tryContend _).mono (by decide)).trans
        (((changes_recomputeAllowance _).trans (changes_judgeRise _)).mono (by decide))
    have pipe := c.pipe
    refine engineOk_startDrift (by rw [pipe]; exact h.1) fun hd => ?_
    rw [c.touch] at hd
    rw [c.start, pipe]
    exact ⟨rfl, (h.2.mp hd).2⟩
  passTime h := h.congr rfl Iff.rfl (by simp [passTime, Timer.tick]) (by simp [passTime, Timer.tick])

end Engine

/-! ### The lines and the hold time -/

section Guards
variable {g : LineGuard} {s t : State}

theorem guardOk_step {f : LineGuard → LineGuard} (hf : GuardStep f) (h : GuardOk g) : GuardOk (f g) := by
  obtain ⟨guard, arrival, departure, presence, failed⟩ := g
  obtain ⟨ha, hd, hp⟩ := h
  dsimp only [LineGuard.present] at ha hd hp
  cases hf with
  | begins => cases guard <;> cases failed <;> simp_all [LineGuard.presenceBegins, GuardOk, LineGuard.present]
  | ends => cases guard <;> simp_all [LineGuard.presenceEnds, GuardOk, LineGuard.present]
  | arrival =>
    unfold LineGuard.arrivalExpires
    split
    · simp_all [GuardOk, LineGuard.present]
    · exact ⟨ha, hd, hp⟩
  | departure =>
    unfold LineGuard.departureExpires
    split
    · simp_all [GuardOk, LineGuard.present]
    · exact ⟨ha, hd, hp⟩

theorem guardOk_presenceExpires (h : GuardOk g) : GuardOk g.presenceExpires := by
  unfold LineGuard.presenceExpires
  split
  · exact ⟨h.1, h.2.1, by simp⟩
  · exact h

theorem guardOk_clearFailed (h : GuardOk g) : GuardOk g.clearFailed := by
  obtain ⟨ha, hd, hp⟩ := h
  unfold LineGuard.clearFailed
  split
  · refine ⟨ha, hd, ?_⟩
    cases hpr : g.present <;> simp <;> exact hpr
  · exact ⟨ha, hd, hp⟩

theorem guardOk_tick (h : GuardOk g) : GuardOk g.tick := by
  obtain ⟨ha, hd, hp⟩ := h
  refine ⟨?_, ?_, ?_⟩
  · simpa [LineGuard.tick, Timer.tick] using ha
  · simpa [LineGuard.tick, Timer.tick] using hd
  · simpa [LineGuard.tick, Timer.tick, LineGuard.present] using hp

theorem guardOk_firstReading (present : Bool) : GuardOk (firstReading present) := by
  cases present <;> exact ⟨by decide, by decide, by decide⟩

/-- R142, R148: the lines' guards, and the hold time within its limit, which CONFIG does not have yet. -/
structure TouchRules (s : State) : Prop where
  lines : TouchOk s
  hold : HoldOk s
  config : s.start.life = .config → s.start.settings = none

theorem TouchRules.congr (h : TouchRules s) (hstart : t.start = s.start) (hlines : ∀ g ∈ t.touch.lines, GuardOk g)
    (htime : t.touch.holdTime = s.touch.holdTime) : TouchRules t := by
  refine ⟨hlines, ?_, by rw [hstart]; exact h.config⟩
  have hold := h.hold
  unfold HoldOk holdLimitMs at hold ⊢
  rwa [htime, hstart]

theorem TouchRules.same (h : TouchRules s) (hstart : t.start = s.start) (hlines : t.touch.lines = s.touch.lines)
    (htime : t.touch.holdTime = s.touch.holdTime) : TouchRules t := h.congr hstart (hlines ▸ h.lines) htime

theorem TouchRules.of_changes {bs : List Block} (h : TouchRules s) (c : Changes bs s t)
    (hs : Block.start ∉ bs := by decide) (ht : Block.touch ∉ bs := by decide) : TouchRules t := by
  have touch := c.touch ht
  exact h.same (c.start hs) (by rw [touch]) (by rw [touch])

theorem TouchRules.judgeHold (h : TouchRules s) : TouchRules (judgeHold s) :=
  h.same (changes_judgeHold s).start (by rw [judgeHold_touch]) (by rw [judgeHold_touch])

theorem startDrift_guards (s : State) : (startDrift s).touch.lines = s.touch.lines ∧
    (startDrift s).touch.holdTime = s.touch.holdTime := by
  unfold startDrift
  split <;> exact ⟨rfl, rfl⟩

theorem TouchRules.startDrift (h : TouchRules s) : TouchRules (startDrift s) :=
  h.same (changes_startDrift s).start (startDrift_guards s).1 (startDrift_guards s).2

theorem TouchRules.lookForRow (h : TouchRules s) : TouchRules (lookForRow s) := by
  unfold Machine.lookForRow
  split
  · have admitted : TouchRules (admitRow (s.withPipe { s.pipe with engine := .running, stepTimer := some 0 })) :=
      (h.of_changes (changes_withPipe _ _)).of_changes (changes_admitRow _)
    exact admitted.same rfl rfl rfl
  · exact h

theorem TouchRules.changeLine (h : TouchRules s) (l : Nat) {f : LineGuard → LineGuard}
    (hf : ∀ g, GuardOk g → GuardOk (f g)) : TouchRules (changeLine l f s) := by
  refine h.congr rfl (fun g hg => ?_) rfl
  obtain ⟨i, hi⟩ := List.mem_iff_getElem?.mp hg
  rw [Machine.changeLine, State.withTouch_touch, List.getElem?_modify] at hi
  cases hx : s.touch.lines[i]? with
  | none => simp [hx] at hi
  | some y =>
    have ok := h.lines y (List.mem_of_getElem? hx)
    by_cases hl : l = i
    · simp only [hx, hl, if_true, Option.map_eq_map, Option.map_some, Option.some.injEq] at hi
      exact hi ▸ hf y ok
    · simp only [hx, hl, if_false, Option.map_eq_map, Option.map_some, Option.some.injEq] at hi
      exact hi ▸ ok

theorem TouchRules.mapLines (h : TouchRules s) {f : LineGuard → LineGuard} (hf : ∀ g, GuardOk g → GuardOk (f g))
    (hstart : t.start = s.start) (hlines : t.touch.lines = s.touch.lines.map f)
    (htime : t.touch.holdTime = s.touch.holdTime) : TouchRules t := by
  refine h.congr hstart (fun g hg => ?_) htime
  rw [hlines] at hg
  obtain ⟨y, hy, rfl⟩ := List.mem_map.mp hg
  exact hf y (h.lines y hy)

theorem TouchRules.lineCloses (h : TouchRules s) (l : Nat) : TouchRules (lineCloses l s) :=
  (h.of_changes (changes_withPipe _ _) : TouchRules (withdrawLine l s)).judgeHold

theorem TouchRules.guardEvent (h : TouchRules s) (l : Nat) {f : LineGuard → LineGuard} (hf : GuardStep f) :
    TouchRules (guardEvent l f s) := by
  have changed := h.changeLine l fun g hg => guardOk_step hf hg
  unfold Machine.guardEvent
  dsimp only
  split
  · exact changed
  · split
    · exact changed.lineCloses l
    · exact changed.lookForRow.judgeHold

theorem touchRules_work : KeptByWork TouchRules where
  setPattern h := h.of_changes (changes_setPattern _)
  refreshRow _ h := h.of_changes (changes_refreshRow _ _)
  lookForRow h := h.lookForRow
  judgeHold h := h.judgeHold
  settled _ h := h.of_changes changes_settledAndAnnounced

theorem touchRules_plantWork : KeptByPlantWork TouchRules where
  refreshRow _ h := h.of_changes (changes_refreshRow _ _)
  rebuildRow _ h := h.of_changes (changes_rebuildRow _ _)
  emptyPlan h := h.of_changes (changes_emptyPlan _)
  clearFaultMap h := h.of_changes (changes_clearFaultMap _)
  lookForRow h := h.lookForRow
  fence h := h.of_changes (changes_fence _)
  judgeHold h := h.judgeHold
  resetHold _ h := ⟨h.lines, Nat.zero_le _, h.config⟩
  holdLimit h := ⟨h.lines, Nat.le_refl _, h.config⟩
  rotation _ h := h.same rfl rfl rfl
  driftRestarts _ h := h.same rfl rfl rfl
  guardEvent l _ hf h := h.guardEvent l hf
  presenceExpires l h := h.changeLine l fun _ hg => guardOk_presenceExpires hg
  stepRestarts _ h := h.same rfl rfl rfl
  sensed _ _ h := h.of_changes ((changes_withPipe _ _).comp (changes_recomputeRow _ _ _ _ _) (ds := [.pipe, .plan]))
  settleStage _ h := h.of_changes (changes_settleStage _)
  strikeStage _ h := h.of_changes (changes_strikeStage _)
  entersStrike _ _ h := h.same rfl rfl rfl
  fires _ _ h := h.same rfl rfl rfl
  admits _ h := h.of_changes (changes_admitRow _)
  fenceLifts _ _ h := h.same rfl rfl rfl
  stops {s} _ h := TouchRules.startDrift (h.same (t := s.withPipe _) rfl rfl rfl)

theorem touchRules_events : KeptByEvents TouchRules where
  side c h := h.of_changes c.changes
  share c h := h.of_changes c
  linkWork := keptByLinkWork_of_changes fun c h => h.of_changes c
  plantWork := touchRules_plantWork
  clearStrips := clearStrips_keeps touchRules_work (fun h => h.mapLines (fun _ => guardOk_clearFailed) rfl rfl rfl)
    (fun l h => h.lineCloses l)
  powerOn _ _ := ⟨fun _ hg => (nomatch hg), Nat.zero_le _, fun _ => rfl⟩
  holdReset _ := ⟨fun _ hg => (nomatch hg), Nat.zero_le _, fun _ => rfl⟩
  endConfig {s} memory strips hl h := by
    refine ⟨fun g hg => ?_, ?_, fun hc => nomatch hc⟩
    · obtain ⟨l, _, rfl⟩ := List.mem_map.mp hg
      exact guardOk_firstReading _
    · have hold := h.hold
      rw [HoldOk, holdLimitMs, h.config hl] at hold
      exact hold.trans (Nat.zero_le _)
  listening hl _ h := ⟨h.lines, h.hold, fun hc => nomatch hc⟩
  enterJoined {s} _ h := by
    have joined : TouchRules (s.withStart { s.start with life := .joined, joinTimer := none }) :=
      ⟨h.lines, h.hold, fun hc => nomatch hc⟩
    exact TouchRules.startDrift (((joined.of_changes (changes_tryContend _)).of_changes
      (changes_recomputeAllowance _)).of_changes (changes_judgeRise _))
  passTime {s} h := by
    refine ⟨fun g hg => ?_, ?_, h.config⟩
    · obtain ⟨y, hy, rfl⟩ := List.mem_map.mp hg
      exact guardOk_tick (h.lines y hy)
    · have hold : s.touch.holdTime ≤ holdLimitMs s := h.hold
      show holdTick s ≤ holdLimitMs s
      unfold holdTick
      split
      · exact Nat.min_le_right _ _
      · exact hold

end Guards

/-! ### The obligation -/

/-- Settles O59: each of the three groups of rules is kept by the elementary operations, so by every event. -/
theorem everyStepKeepsThePipelineAndTheTouchGuard : Obligations.EveryStepKeepsThePipelineAndTheTouchGuard := by
  unfold Obligations.EveryStepKeepsThePipelineAndTheTouchGuard
  intro s t ⟨start, engine, slots, touch, hold⟩ plan hstep
  obtain ⟨q, event⟩ := step_event hstep
  have core : CoreOk (s.withPending q) := CoreOk.congr (coreOk_iff.mpr ⟨start, plan, slots⟩) rfl rfl rfl rfl
  have rules : TouchRules (s.withPending q) := ⟨touch, hold, start.1.mp⟩
  obtain ⟨start', -, slots'⟩ := coreOk_iff.mp (coreOk_events.event event core)
  have rules' := touchRules_events.event event rules
  exact ⟨start', engineOk_events.event event engine, slots', rules'.lines, rules'.hold⟩

end Sys2Proof.Machine
end

section
/-!
The page assembler through every event: the sizes of the images, the fault map and the touch guard (R9, R82, R142), the
page under assembly (R40, R42, R45) and the page state (R54, R58).
-/

namespace Sys2Proof.Machine

section Page
variable {s t : State}

theorem faults_length_recomputeRow (r : Nat) (m : Moves) (attempt : Nat) (voided : Bool) :
    (recomputeRow r m attempt voided s).plan.faults.length = s.plan.faults.length := by
  have job (j : Option Job) (u : State) : (setJob r j u).plan.faults.length = u.plan.faults.length := rfl
  have weak (pins : PinSet) (u : State) : (markWeak r pins u).plan.faults.length = u.plan.faults.length := by
    simp [markWeak, changeFaults]
  have stuck (m : Moves) (u : State) : (markStuck r m u).plan.faults.length = u.plan.faults.length := by
    simp [markStuck, changeFaults]
  unfold recomputeRow
  split
  · unfold recomputeVoided
    dsimp only
    split
    · exact job _ _
    · split <;> exact job _ _
  · unfold recomputeJob
    dsimp only
    split
    · exact (job _ _).trans (weak _ _)
    · split
      · split
        · exact (job _ _).trans (weak _ _)
        · exact (job _ _).trans ((stuck _ _).trans (weak _ _))
      · exact (job _ _).trans (weak _ _)

theorem faults_length_rebuildRow (r : Nat) : (rebuildRow s r).plan.faults = s.plan.faults := by
  unfold rebuildRow
  split <;> rfl

/-- The rules of the page assembler. -/
structure PageRules (s : State) : Prop where
  sizes : SizesOk s
  staging : StagingOk s
  state : PageStateOk s

theorem SizesOk.congr (h : SizesOk s) (hsettings : t.start.settings = s.start.settings)
    (hstaging : t.page.staging.length = s.page.staging.length) (htarget : t.page.target.length = s.page.target.length)
    (hshown : t.shown.length = s.shown.length) (hfaults : t.plan.faults.length = s.plan.faults.length)
    (hlines : t.touch.lines.length = s.touch.lines.length) : SizesOk t := by
  unfold SizesOk lineCount cellCount rowCount colCount lineCount cellCount at *
  rwa [hsettings, hstaging, htarget, hshown, hfaults, hlines]

/-- A change of the page that keeps its images. -/
theorem SizesOk.withPage {x : Page} (h : SizesOk s) (hstaging : x.staging.length = s.page.staging.length)
    (htarget : x.target.length = s.page.target.length) : SizesOk (s.withPage x) :=
  h.congr rfl hstaging htarget rfl rfl rfl

theorem PageRules.congr (h : PageRules s) (hstart : t.start = s.start) (hpage : t.page = s.page)
    (hshown : t.shown = s.shown) (hfaults : t.plan.faults.length = s.plan.faults.length)
    (hlines : t.touch.lines.length = s.touch.lines.length) : PageRules t := by
  refine ⟨h.sizes.congr (by rw [hstart]) (by rw [hpage]) (by rw [hpage]) (by rw [hshown]) hfaults hlines, ?_, ?_⟩
  · have staging := h.staging
    unfold StagingOk at *
    rwa [hpage]
  · have state := h.state
    unfold PageStateOk at *
    rwa [hpage]

theorem PageRules.of_changes {bs : List Block} (h : PageRules s) (c : Changes bs s t)
    (hs : Block.start ∉ bs := by decide) (hp : Block.page ∉ bs := by decide) (hi : Block.shown ∉ bs := by decide)
    (hf : Block.plan ∉ bs := by decide) (ht : Block.touch ∉ bs := by decide) : PageRules t :=
  h.congr (c.start hs) (c.page hp) (c.shown hi) (by rw [c.plan hf]) (by rw [c.touch ht])

/-- A plan operation that keeps the fault map's size. -/
theorem PageRules.of_plan (h : PageRules s) (c : Changes [.plan] s t)
    (hf : t.plan.faults.length = s.plan.faults.length) : PageRules t :=
  h.congr c.start c.page c.shown hf (by rw [c.touch])

/-- Page work without a settle. -/
theorem PageRules.of_workKept {bs : List Block} (h : PageRules s) (c : Changes bs s t) (w : WorkKept s t)
    (hs : Block.start ∉ bs := by decide) (hp : Block.page ∉ bs := by decide) (hi : Block.shown ∉ bs := by decide) :
    PageRules t :=
  h.congr (c.start hs) (c.page hp) (c.shown hi) (by rw [w.faults]) (by rw [w.lines])

theorem pageRules_reset (hstart : t.start.settings = none) (hpage : t.page = State.reset.page)
    (hshown : t.shown = State.reset.shown) (hplan : t.plan = State.reset.plan)
    (htouch : t.touch = State.reset.touch) : PageRules t := by
  refine ⟨?_, ?_, ?_⟩
  · unfold SizesOk rowCount lineCount
    rw [hstart, hpage, hshown, hplan, htouch]
    simp only [Option.elim_none, Nat.zero_mul, Nat.mul_zero]
    decide
  · rw [StagingOk, hpage]
    exact fun _ _ h => nomatch h
  · rw [PageStateOk, hpage]
    exact ⟨fun _ => rfl, fun h => nomatch h⟩

/-- R49, R59: a page that begins is WORKING with outcome NONE. -/
theorem pageStateOk_workBegun : PageStateOk (workBegun s) :=
  ⟨fun h => (nomatch h), fun _ _ => rfl⟩

theorem pageRules_side (step : SideStep s t) (h : PageRules s) : PageRules t := by
  obtain ⟨sizes, staging, state⟩ := h
  have h : PageRules s := ⟨sizes, staging, state⟩
  cases step with
  | pattern => exact h.of_changes (changes_setPattern _)
  | sensed r x => exact ⟨sizes.congr rfl rfl rfl (by simp [senseRow, writeRow]) rfl rfl, staging, state⟩
  | copied =>
    obtain ⟨_, target, shown, _⟩ := sizes
    exact ⟨h.sizes.withPage rfl (shown.trans target.symm), staging, state⟩
  | opened serial mode hs hn =>
    refine ⟨sizes.withPage ?_ rfl, fun x e hx => ?_, state⟩
    · unfold stagingFill
      split
      · exact List.length_map _
      · exact sizes.2.1.trans sizes.1.symm
    · injection hx with hx he
      exact hx ▸ ⟨hs, by omega, hn⟩
  | fragment cur e line first cells he ha =>
    refine ⟨sizes.withPage ?_ rfl, fun x e' hx => ?_, state⟩
    · unfold writeFragment
      split
      · rfl
      · exact List.length_mapIdx
    · injection hx with hx hxe
      obtain ⟨nonzero, _, newer⟩ := staging cur e ha
      exact hx ▸ ⟨nonzero, by omega, newer⟩
  | turned serial =>
    exact ⟨sizes.withPage rfl (sizes.1.trans sizes.2.1.symm), fun _ _ hx => (nomatch hx), pageStateOk_workBegun⟩
  | flattened => exact ⟨sizes.withPage rfl (List.length_map _), staging, pageStateOk_workBegun⟩
  | settled outcome detail hw => exact ⟨sizes.withPage rfl rfl, staging, ⟨fun hx => (nomatch hx), fun hx => (nomatch hx)⟩⟩
  | held mask => exact ⟨sizes.withPage rfl rfl, staging, ⟨state.1, fun _ hx => (nomatch hx)⟩⟩
  | announced serial outcome detail => exact ⟨sizes.withPage rfl rfl, staging, state⟩
  | cleared =>
    exact ⟨sizes.withPage rfl (sizes.2.2.1.trans sizes.2.1.symm), fun _ _ hx => (nomatch hx),
      ⟨fun _ => rfl, fun hx => (nomatch hx)⟩⟩

theorem lines_length_changeLine (l : Nat) (f : LineGuard → LineGuard) :
    (changeLine l f s).touch.lines.length = s.touch.lines.length := List.length_modify _ _ _

theorem PageRules.changeLine (l : Nat) (f : LineGuard → LineGuard) (h : PageRules s) : PageRules (changeLine l f s) :=
  h.congr rfl rfl rfl rfl (lines_length_changeLine l f)

theorem PageRules.lineCloses (l : Nat) (h : PageRules s) : PageRules (lineCloses l s) :=
  (h.of_changes (changes_withPipe _ _) : PageRules (withdrawLine l s)).of_workKept (changes_judgeHold _) workKept_judgeHold

theorem PageRules.guardEvent (l : Nat) (f : LineGuard → LineGuard) (h : PageRules s) : PageRules (guardEvent l f s) := by
  have changed := h.changeLine l f
  unfold Machine.guardEvent
  dsimp only
  split
  · exact changed
  · split
    · exact changed.lineCloses l
    · exact changed.of_workKept (changes_quietNotices _) (workKept_quietNotices _)

theorem PageRules.settledAndAnnounced (hw : s.page.state = .working) (h : PageRules s) :
    PageRules (settledAndAnnounced s) :=
  (pageRules_side (.announced _ _ _) (pageRules_side (.settled _ _ hw) h)).of_changes (changes_enqueueAnnounce _ _)

theorem PageRules.startDrift (h : PageRules s) : PageRules (startDrift s) := by
  have c := changes_startDrift s
  exact h.congr c.start c.page c.shown (by rw [c.plan]) (by rw [(startDrift_guards s).1])

theorem pageRules_plantWork : KeptByPlantWork PageRules where
  refreshRow _ h := h.of_plan (changes_refreshRow _ _) (by rw [refreshRow_faults])
  rebuildRow _ h := h.of_plan (changes_rebuildRow _ _) (by rw [faults_length_rebuildRow])
  emptyPlan h := h.of_plan (changes_emptyPlan _) rfl
  clearFaultMap h := h.of_plan (changes_clearFaultMap _) (List.length_map _)
  lookForRow h := h.of_workKept (changes_lookForRow _) workKept_lookForRow
  fence h := h.of_changes (changes_fence _)
  judgeHold h := h.of_workKept (changes_judgeHold _) workKept_judgeHold
  resetHold _ h := h.congr rfl rfl rfl rfl rfl
  holdLimit h := h.congr rfl rfl rfl rfl rfl
  rotation _ h := h.congr rfl rfl rfl rfl rfl
  driftRestarts _ h := h.congr rfl rfl rfl rfl rfl
  guardEvent l _ _ h := h.guardEvent l _
  presenceExpires l h := h.changeLine l _
  stepRestarts _ h := h.congr rfl rfl rfl rfl rfl
  sensed {s x} v _ h := by
    have emptied : PageRules (s.withPipe { s.pipe with sense := none }) := h.congr rfl rfl rfl rfl rfl
    exact emptied.of_plan (changes_recomputeRow _ _ _ _ _) (faults_length_recomputeRow _ _ _ _)
  settleStage _ h := h.of_changes (changes_settleStage _)
  strikeStage _ h := h.of_changes (changes_strikeStage _)
  entersStrike _ _ h := h.congr rfl rfl rfl rfl rfl
  fires _ _ h := h.congr rfl rfl rfl rfl rfl
  admits _ h := h.of_changes (changes_admitRow _)
  fenceLifts _ _ h := h.congr rfl rfl rfl rfl rfl
  stops _ h := PageRules.startDrift (h.of_changes (changes_withPipe _ _))

theorem pageRules_events : KeptByEvents PageRules where
  side := pageRules_side
  share c h := h.of_changes c
  linkWork := keptByLinkWork_of_changes fun c h => h.of_changes c
  plantWork := pageRules_plantWork
  clearStrips := clearStrips_keeps
    (keptByWork_of_settled (fun c w h => h.of_workKept c w) fun can h => h.settledAndAnnounced (canSettle_iff.mp can).1)
    (fun h => h.congr rfl rfl rfl rfl (List.length_map _)) (fun l h => h.lineCloses l)
  powerOn _ _ := pageRules_reset rfl rfl rfl rfl rfl
  holdReset _ := pageRules_reset rfl rfl rfl rfl rfl
  endConfig {s} memory strips _ h := by
    refine ⟨⟨List.length_replicate, List.length_replicate, List.length_replicate, ?_, ?_⟩, h.staging, h.state⟩
    · refine List.length_replicate.trans ?_
      show _ = 4 * (settingsOf s.start.straps memory).lineCount * (2 * (settingsOf s.start.straps memory).cellCount)
      ring
    · exact (List.length_map _).trans List.length_range
  listening _ _ h := ⟨h.sizes, h.staging, h.state⟩
  enterJoined {s} _ h := by
    have joined : PageRules (s.withStart { s.start with life := .joined, joinTimer := none }) :=
      ⟨h.sizes, h.staging, h.state⟩
    exact PageRules.startDrift (((joined.of_changes (changes_tryContend _)).of_changes
      (changes_recomputeAllowance _)).of_changes (changes_judgeRise _))
  passTime {s} h := ⟨h.sizes.congr rfl rfl rfl rfl rfl (List.length_map _), h.staging, h.state⟩

end Page

end Sys2Proof.Machine
end

section
/-!
The page at rest: the current pattern is the one its inputs give (R161) and no page waits to be settled (R56), through
every event; and no work before LISTENING (R187, R188).
-/

namespace Sys2Proof.Machine

/-! ### Work that the page assembler does not see -/

section Aside
variable {s t u : State}

/-- The blocks of the link controller, the charge bank and the rail share, with SHOWN. -/
abbrev asideBlocks : List Block := [.link, .draws, .bank, .rail, .shown]

/-- Work of those blocks that leaves the line state and the view alone. -/
structure Aside (s t : State) : Prop where
  changes : Changes asideBlocks s t
  lineUp : t.link.lineUp = s.link.lineUp
  view : t.rail.view = s.rail.view

theorem Aside.refl (s : State) : Aside s s := ⟨Changes.refl _ _, rfl, rfl⟩

theorem Aside.trans (h : Aside s t) (g : Aside t u) : Aside s u :=
  ⟨h.changes.trans g.changes, g.lineUp.trans h.lineUp, g.view.trans h.view⟩

theorem aside_link (c : Changes [.link, .draws] s t) (h : t.link.lineUp = s.link.lineUp) : Aside s t :=
  ⟨c.mono (by decide), h, by rw [c.rail]⟩

theorem aside_withLink {x : Link} (h : x.lineUp = s.link.lineUp) : Aside s (s.withLink x) :=
  aside_link ((changes_withLink _ _).mono (by decide)) h

theorem aside_withBank (x : Bank) : Aside s (s.withBank x) :=
  ⟨(changes_withBank _ _).mono (by decide), rfl, rfl⟩

theorem aside_withRail {x : RailShare} (h : x.view = s.rail.view) : Aside s (s.withRail x) :=
  ⟨(changes_withRail _ _).mono (by decide), rfl, h⟩

theorem aside_senseRow (r : Nat) (x : PinSet) : Aside s (senseRow r x s) :=
  ⟨(changes_senseRow _ _ _).mono (by decide), rfl, rfl⟩

theorem aside_count (k : Counter) : Aside s (count k s) := aside_withLink rfl

theorem aside_tryContend : Aside s (tryContend s) := aside_link (changes_tryContend s) (kept_tryContend s).1

theorem aside_enqueueReply (r : Reply) : Aside s (enqueueReply r s) := by
  refine aside_link (changes_enqueueReply r s) ?_
  unfold enqueueReply
  split
  · rfl
  · exact (kept_joinTail s _).1

theorem aside_enqueueAnnounce (k : Announce) : Aside s (enqueueAnnounce k s) :=
  aside_link (changes_enqueueAnnounce k s) (kept_enqueueAnnounce s k).1

theorem aside_announceDemand : Aside s (announceDemand s) := by
  unfold announceDemand
  split
  · exact .refl s
  · exact aside_enqueueAnnounce _

theorem aside_judgeRise : Aside s (judgeRise s) := by
  unfold judgeRise
  split
  · exact .refl s
  · split
    · exact aside_withRail rfl
    · exact .refl s

theorem aside_applyAllowance (a : Nat) : Aside s (applyAllowance a s) := by
  unfold applyAllowance
  dsimp only
  split
  · exact aside_withRail rfl
  · split
    · split
      · refine (aside_withRail ?_).trans aside_judgeRise
        rfl
      · exact aside_withRail rfl
    · exact aside_withRail rfl

theorem aside_recomputeAllowance : Aside s (recomputeAllowance s) := by
  unfold recomputeAllowance
  split
  · exact .refl s
  · split
    · exact aside_applyAllowance _
    · exact .refl s

theorem aside_updateDemand : Aside s (updateDemand s) := by
  unfold updateDemand
  dsimp only
  split
  · exact .refl s
  · exact ((aside_withBank _).trans aside_announceDemand).trans aside_recomputeAllowance

theorem collideLink_lineUp (o : OnLine) (l : Link) : (collideLink o l).lineUp = l.lineUp := by
  unfold collideLink
  dsimp only
  split
  · split <;> rfl
  · split
    · rfl
    · split <;> rfl

theorem aside_collide (o : OnLine) : Aside s (collide o s) := by
  have collided : Aside s ((count .collisions s).withLink
      { collideLink o (count .collisions s).link with quiet := false }) :=
    (aside_count _).trans (aside_withLink (collideLink_lineUp o _))
  unfold collide
  dsimp only
  split
  · exact (collided.trans aside_judgeRise).trans aside_announceDemand
  · exact collided

theorem aside_completeAttempt (o : OnLine) : Aside s (completeAttempt o s) := by
  have completed : Aside s (s.withLink { (if headRenew s.link.queue then s.link.renewHead else s.link.popHead) with
      onLine := none, quiet := false }) := by
    refine aside_withLink ?_
    split <;> rfl
  unfold completeAttempt
  dsimp only
  split
  · exact completed
  · exact ((completed.trans (aside_withBank _)).trans aside_judgeRise).trans aside_announceDemand

theorem aside_endJam (o : OnLine) : Aside s (endJam o s) := by
  unfold endJam
  refine aside_withLink ?_
  split <;> rfl

theorem aside_cutOff : Aside s (cutOff s) := by
  unfold cutOff
  split
  · exact .refl s
  · split
    · exact aside_endJam _
    · exact (aside_collide _).trans (aside_withLink rfl)

theorem aside_beginAttempt : Aside s (beginAttempt s) := by
  unfold beginAttempt
  split
  · split
    · exact aside_withLink rfl
    · exact .refl s
  · exact .refl s

theorem aside_quietGapEnds : Aside s (quietGapEnds s) := by
  unfold quietGapEnds
  split
  · exact .refl s
  · refine (aside_withLink ?_).trans aside_tryContend
    rfl

theorem aside_noteClash : Aside s (noteClash s) := by
  refine (aside_withLink ?_).trans (aside_count _)
  rfl

theorem aside_lineBusy : Aside s (lineBusy s) := aside_withLink rfl

theorem aside_refreshExpires : Aside s (refreshExpires s) := by
  unfold refreshExpires
  split
  · refine (aside_withRail ?_).trans (aside_enqueueAnnounce _)
    rfl
  · exact .refl s

theorem aside_riseExpires : Aside s (riseExpires s) := by
  unfold riseExpires
  split
  · exact .refl s
  · split
    · exact .refl s
    · split
      · exact aside_withRail rfl
      · exact .refl s

end Aside

/-! ### The page at rest -/

/-- What of a view entry the pattern reads. -/
def PeerEntry.shownState (e : PeerEntry) : Half × PageOutcome := (e.serial, e.outcome)

/-- What the pattern is worked out from. -/
structure SameInputs (s t : State) : Prop where
  settings : t.start.settings = s.start.settings
  turned : t.page.turned = s.page.turned
  state : t.page.state = s.page.state
  outcome : t.page.outcome = s.page.outcome
  view : t.rail.view.map PeerEntry.shownState = s.rail.view.map PeerEntry.shownState
  failed : t.touch.lines.any (·.failed) = s.touch.lines.any (·.failed)
  lineUp : t.link.lineUp = s.link.lineUp

section Rest
variable {s t u : State}

theorem SameInputs.patternOf (h : SameInputs s t) : patternOf t = patternOf s := by
  have length : t.rail.view.length = s.rail.view.length := by
    rw [← List.length_map PeerEntry.shownState, h.view, List.length_map]
  have all (p : Half × PageOutcome → Bool) : t.rail.view.all (fun e => p e.shownState) =
      s.rail.view.all (fun e => p e.shownState) := by
    have mapped := congrArg (fun v => v.all p) h.view
    simpa only [List.all_map, Function.comp_def] using mapped
  have any (p : Half × PageOutcome → Bool) : t.rail.view.any (fun e => p e.shownState) =
      s.rail.view.any (fun e => p e.shownState) := by
    have mapped := congrArg (fun v => v.any p) h.view
    simpa only [List.any_map, Function.comp_def] using mapped
  have ready : pageReady t = pageReady s := by
    unfold pageReady
    have sameAll : t.rail.view.all (fun e => e.serial == s.page.turned && (e.outcome == .done || e.outcome == .doneFaults)) =
        s.rail.view.all (fun e => e.serial == s.page.turned && (e.outcome == .done || e.outcome == .doneFaults)) :=
      all (fun x => x.1 == s.page.turned && (x.2 == .done || x.2 == .doneFaults))
    rw [h.settings, h.state, h.turned, length, sameAll]
  have asks : attention t = attention s := by
    unfold attention
    have sameAny : t.rail.view.any (fun e => e.outcome == .doneFaults) = s.rail.view.any (fun e => e.outcome == .doneFaults) :=
      any (fun x => x.2 == .doneFaults)
    rw [h.outcome, h.failed, h.lineUp, sameAny]
  unfold Machine.patternOf
  rw [h.turned, ready, asks]

/-- A change that neither the pattern nor the settle check notices. -/
structure Undisturbed (s t : State) : Prop where
  pattern : t.pattern = s.pattern
  inputs : patternOf t = patternOf s
  settle : canSettle t = true → canSettle s = true

theorem Undisturbed.refl (s : State) : Undisturbed s s := ⟨rfl, rfl, id⟩

theorem Undisturbed.trans (h : Undisturbed s t) (g : Undisturbed t u) : Undisturbed s u :=
  ⟨g.pattern.trans h.pattern, g.inputs.trans h.inputs, fun c => h.settle (g.settle c)⟩

theorem SameInputs.of_changes {bs : List Block} (c : Changes bs s t) (hs : Block.start ∉ bs := by decide)
    (hp : Block.page ∉ bs := by decide) (hr : Block.rail ∉ bs := by decide) (hl : Block.link ∉ bs := by decide)
    (hf : t.touch.lines.any (·.failed) = s.touch.lines.any (·.failed)) : SameInputs s t := by
  have page := c.page hp
  exact ⟨by rw [c.start hs], by rw [page], by rw [page], by rw [page], by rw [c.rail hr], hf, by rw [c.link hl]⟩

theorem SameInputs.undisturbed (h : SameInputs s t) (hpattern : t.pattern = s.pattern) (hplan : t.plan = s.plan)
    (hengine : t.pipe.engine = .idle → s.pipe.engine = .idle) : Undisturbed s t := by
  refine ⟨hpattern, h.patternOf, fun can => ?_⟩
  obtain ⟨working, empty, idle⟩ := canSettle_iff.mp can
  exact canSettle_iff.mpr ⟨h.state ▸ working, by rwa [planEmpty, ← hplan], hengine idle⟩

theorem Aside.undisturbed (h : Aside s t) : Undisturbed s t := by
  have c := h.changes
  have page := c.page
  refine SameInputs.undisturbed ⟨by rw [c.start], by rw [page], by rw [page], by rw [page], by rw [h.view],
    by rw [c.touch], h.lineUp⟩ c.pattern c.plan fun hi => ?_
  rwa [c.pipe] at hi

/-- A change of the pipeline and the touch guard in which the engine does not stop. -/
theorem undisturbed_of_plant {bs : List Block} (c : Changes bs s t) (hs : Block.start ∉ bs := by decide)
    (hp : Block.page ∉ bs := by decide) (hr : Block.rail ∉ bs := by decide) (hl : Block.link ∉ bs := by decide)
    (hj : Block.plan ∉ bs := by decide) (ha : Block.pattern ∉ bs := by decide)
    (hf : t.touch.lines.any (·.failed) = s.touch.lines.any (·.failed))
    (hi : t.pipe.engine = .idle → s.pipe.engine = .idle) : Undisturbed s t :=
  (SameInputs.of_changes c hs hp hr hl hf).undisturbed (c.pattern ha) (c.plan hj) hi

theorem undisturbed_withPipe {p : Pipeline} (h : p.engine = .idle → s.pipe.engine = .idle) :
    Undisturbed s (s.withPipe p) := undisturbed_of_plant (changes_withPipe _ _) (hf := rfl) (hi := h)

theorem undisturbed_withTouch {x : Touch} (h : x.lines = s.touch.lines) : Undisturbed s (s.withTouch x) :=
  undisturbed_of_plant (changes_withTouch _ _) (hf := by rw [State.withTouch_touch, h]) (hi := id)

theorem undisturbed_admitRow : Undisturbed s (admitRow s) :=
  undisturbed_of_plant (changes_admitRow s) (hf := by rw [(changes_admitRow s).touch])
    (hi := fun h => admitRow_engine (s := s) ▸ h)

theorem lookForRow_engine (h : (lookForRow s).pipe.engine = .idle) : s.pipe.engine = .idle := by
  unfold lookForRow at h
  split at h
  · rename_i hc
    exact hc.1
  · exact h

theorem undisturbed_lookForRow : Undisturbed s (lookForRow s) :=
  undisturbed_of_plant (changes_lookForRow s) (hf := by rw [workKept_lookForRow.lines]) (hi := lookForRow_engine)

theorem undisturbed_judgeHold : Undisturbed s (judgeHold s) :=
  undisturbed_of_plant (changes_judgeHold s) (hf := by rw [workKept_judgeHold.lines])
    (hi := fun h => (changes_judgeHold s).pipe ▸ h)

theorem undisturbed_quietNotices : Undisturbed s (quietNotices s) := undisturbed_lookForRow.trans undisturbed_judgeHold

theorem undisturbed_lineCloses (l : Nat) : Undisturbed s (lineCloses l s) :=
  (undisturbed_withPipe id : Undisturbed s (withdrawLine l s)).trans undisturbed_judgeHold

theorem undisturbed_tryFire : Undisturbed s (tryFire s) := by
  unfold tryFire
  split
  · exact .refl s
  · split
    · refine (undisturbed_withPipe ?_).trans ((aside_withBank _).trans aside_updateDemand).undisturbed
      exact id
    · exact .refl s

/-- R161, R56: the pattern is the one its inputs give, and no page waits to be settled. -/
structure AtRest (s : State) : Prop where
  pattern : PatternRight s
  settled : ¬ canSettle s = true

theorem PatternRight.of_undisturbed (h : PatternRight s) (c : Undisturbed s t) : PatternRight t := by
  unfold PatternRight
  rw [c.pattern, c.inputs]
  exact h

theorem AtRest.of_undisturbed (h : AtRest s) (c : Undisturbed s t) : AtRest t :=
  ⟨h.pattern.of_undisturbed c, fun can => h.settled (c.settle can)⟩

theorem AtRest.of_aside (h : AtRest s) (c : Aside s t) : AtRest t := h.of_undisturbed c.undisturbed

theorem settlePage_state : (settlePage s).page.state ≠ .working := by
  have settled : (settledAndAnnounced s).page.state ≠ .working := by
    rw [settledAndAnnounced_page]
    exact fun h => nomatch h
  rw [settlePage_eq, (workKept_recomputePatternWith _ workKept_quietNotices).page.2 settled]
  exact settled

/-- R56: after the settle check no page waits to be settled. -/
theorem atRest_settleCheck (h : PatternRight s) : AtRest (settleCheck s) := by
  refine ⟨h.settleCheck, ?_⟩
  unfold settleCheck
  split
  · exact fun hc => settlePage_state (canSettle_iff.mp hc).1
  · assumption

theorem atRest_planNotices (h : PatternRight s) : AtRest (planNotices s) := atRest_settleCheck h.quietNotices

theorem atRest_recomputePattern (h : ¬ canSettle s = true) : AtRest (recomputePattern s) := by
  by_cases hc : patternOf s = s.pattern
  · rw [recomputePattern, recomputePatternWith, if_pos hc]
    exact ⟨hc.symm, h⟩
  · by_cases hr : statusRows s = []
    · rw [recomputePattern, recomputePatternWith, if_neg hc, if_pos hr]
      exact ⟨setPattern_right s, h⟩
    · rw [recomputePattern, recomputePatternWith, if_neg hc, if_neg hr]
      exact atRest_planNotices (refreshRows_right _ (setPattern_right s))

end Rest

end Sys2Proof.Machine
end

section
/-!
The page at rest through every event (R56, R161), no work before LISTENING (R187, R188), and with them what every step
keeps of the page and the plan.
-/

namespace Sys2Proof.Machine

section Rest
variable {s t u : State}

/-- A change of the plan, the pipeline or the guard that leaves the FAILED flags alone. -/
theorem PatternRight.of_plant {bs : List Block} (h : PatternRight s) (c : Changes bs s t)
    (hs : Block.start ∉ bs := by decide) (hp : Block.page ∉ bs := by decide) (hr : Block.rail ∉ bs := by decide)
    (hl : Block.link ∉ bs := by decide) (ha : Block.pattern ∉ bs := by decide) (hf : t.touch.lines = s.touch.lines) :
    PatternRight t := by
  unfold PatternRight
  rw [c.pattern ha, (SameInputs.of_changes c hs hp hr hl (by rw [hf])).patternOf]
  exact h

theorem PatternRight.of_aside (h : PatternRight s) (c : Aside s t) : PatternRight t := h.of_undisturbed c.undisturbed

/-- A change of the page that the pattern does not notice. -/
theorem undisturbed_withPage {x : Page} (hturned : x.turned = s.page.turned) (hstate : x.state = s.page.state)
    (houtcome : x.outcome = s.page.outcome) : Undisturbed s (s.withPage x) :=
  SameInputs.undisturbed ⟨rfl, hturned, hstate, houtcome, rfl, rfl, rfl⟩ rfl rfl id

theorem undisturbed_announce (serial : Half) (o : PageOutcome) (n : Nat) : Undisturbed s (announce serial o n s) := by
  refine (undisturbed_withPage ?_ ?_ ?_).trans (aside_enqueueAnnounce _).undisturbed <;> rfl

/-! ### Page work -/

theorem atRest_startWork : AtRest (startWork s) := by
  have begun : PatternRight (setPattern (restartHold (workBegun s))) := setPattern_right _
  have planned : PatternRight (rebuildPlan (fence (setPattern (restartHold (workBegun s))))) := by
    have fenced := begun.of_plant (changes_fence _) (hf := by rw [(changes_fence _).touch])
    exact fenced.of_plant (changes_rebuildPlan _) (hf := by rw [(changes_rebuildPlan _).touch])
  exact atRest_settleCheck planned.planNotices

theorem atRest_pageReset : AtRest (pageReset s) := by
  have cleared : PatternRight (setPattern (stopHold (clearPage s))) := setPattern_right _
  have fenced := cleared.of_plant (changes_fence _) (hf := by rw [(changes_fence _).touch])
  exact atRest_planNotices (refreshRows_right _ (fenced.of_plant (changes_emptyPlan _) (hf := rfl)))

theorem AtRest.announce (h : AtRest s) (serial : Half) (o : PageOutcome) (n : Nat) : AtRest (announce serial o n s) :=
  h.of_undisturbed (undisturbed_announce _ _ _)

theorem AtRest.count (h : AtRest s) (k : Counter) : AtRest (count k s) := h.of_aside (aside_count k)

theorem AtRest.takePage (h : AtRest s) (serial : Half) (mode : Byte) : AtRest (takePage serial mode s) := by
  have opened : AtRest (openPage serial mode s) := h.of_undisturbed (undisturbed_withPage rfl rfl rfl)
  unfold Machine.takePage
  split
  · exact h.count _
  · split
    · exact opened
    · split
      · exact opened
      · exact opened.count _

theorem AtRest.takeContent (h : AtRest s) (serial seq : Half) (line first : Byte) (cells : List Byte) :
    AtRest (takeContent serial seq line first cells s) := by
  unfold Machine.takeContent
  split
  · exact h.count _
  · split
    · exact h.count _
    · split
      · exact h.of_undisturbed (undisturbed_withPage rfl rfl rfl)
      · split
        · exact h.count _
        · exact h.count _

theorem AtRest.turnElsewhere (h : AtRest s) (serial : Half) : AtRest (turnElsewhere serial s) := by
  unfold Machine.turnElsewhere
  split
  · unfold duplicateTurn
    split
    · exact h.announce _ _ _
    · split
      · exact h.announce _ _ _
      · exact h
    · exact h
  · split
    · exact h.announce _ _ _
    · exact h.count _

theorem AtRest.takeTurn (h : AtRest s) (serial total : Half) : AtRest (takeTurn serial total s) := by
  unfold Machine.takeTurn
  split
  · exact h.turnElsewhere _
  · split
    · exact h.turnElsewhere _
    · split
      · exact atRest_startWork
      · exact h.announce _ _ _

theorem AtRest.holdReport (h : AtRest s) (mask : Nat) : AtRest (holdReport mask s) := by
  unfold Machine.holdReport
  split
  · refine atRest_recomputePattern fun can => h.settled ?_
    have c := undisturbed_announce (s := s.withPage { s.page with outcome := .held, detail := mask, heldMark := true })
      s.page.turned .held mask
    exact c.settle can
  · exact h

/-- R161: the pattern after a change of its inputs that finds no page waiting to be settled. -/
theorem AtRest.recomputePattern (h : AtRest s) (hpage : u.page = s.page) (hplan : u.plan = s.plan)
    (hpipe : u.pipe = s.pipe) : AtRest (recomputePattern u) := by
  refine atRest_recomputePattern fun can => h.settled ?_
  rw [canSettle, hpage, planEmpty, hplan, hpipe] at can
  exact can

theorem AtRest.takeSettled (h : AtRest s) (sender : Byte) (serial : Half) (outcome : Byte) :
    AtRest (takeSettled sender serial outcome s) := by
  unfold Machine.takeSettled
  split
  · exact h.recomputePattern rfl rfl rfl
  · exact h

theorem AtRest.takeDraw (h : AtRest s) (sender demand : Byte) (serial : Half) (outcome : Byte) :
    AtRest (takeDraw sender demand serial outcome s) := by
  refine (h.recomputePattern ?_ ?_ ?_).of_aside aside_recomputeAllowance <;> rfl

theorem AtRest.expireEntry (h : AtRest s) (st : Byte) : AtRest (expireEntry st s) := by
  unfold Machine.expireEntry
  split
  · refine (h.recomputePattern ?_ ?_ ?_).of_aside aside_recomputeAllowance <;> rfl
  · exact h

theorem PatternRight.clearStrips (h : PatternRight s) : PatternRight (clearStrips s) := by
  unfold Machine.clearStrips
  split
  · have done := recomputePattern_right (s.withTouch { s.touch with lines := s.touch.lines.map LineGuard.clearFailed })
    generalize Machine.recomputePattern _ = t at done
    induction reclosedLines s generalizing t with
    | nil => exact done
    | cons l ls ih => exact ih _ (done.of_undisturbed (undisturbed_lineCloses l))
  · exact h

theorem PatternRight.clearAllFaults (h : PatternRight s) : AtRest (clearAllFaults s) := by
  have cleared := (h.of_plant (changes_clearFaultMap s) (hf := rfl)).clearStrips
  exact atRest_planNotices (refreshRows_right _ cleared)

theorem AtRest.answerQuery (h : AtRest s) (tag kind : Byte) (arg : List Byte) : AtRest (answerQuery tag kind arg s) := by
  refine AtRest.of_aside (s := queryAction (classify kind arg) s) ?_ (aside_enqueueReply _)
  unfold queryAction
  split
  · exact atRest_startWork
  · exact h.pattern.clearAllFaults
  · exact h.of_aside (aside_withLink rfl)
  · exact h

/-! ### The start-up block -/

theorem undisturbed_startDrift : Undisturbed s (startDrift s) :=
  undisturbed_of_plant (changes_startDrift s) (hf := by rw [(startDrift_guards s).1])
    (hi := fun h => (changes_startDrift s).pipe ▸ h)

theorem undisturbed_withStart {x : StartUp} (h : x.settings = s.start.settings) : Undisturbed s (s.withStart x) :=
  SameInputs.undisturbed ⟨h, rfl, rfl, rfl, rfl, rfl, rfl⟩ rfl rfl id

theorem undisturbed_enterListening : Undisturbed s (enterListening s) := by
  have entered : Undisturbed s ((s.withStart { s.start with life := .listening, joinTimer := some 0 }).withTouch
      { s.touch with driftTimer := none }) := by
    refine (undisturbed_withStart ?_).trans (undisturbed_withTouch rfl)
    rfl
  have timed (v : State) : Aside v ((v.withBank { v.bank with railTimer := some (v.bank.railTimer.getD 0) }).withRail
      { v.rail with refreshTimer := some 0 }) := (aside_withBank _).trans (aside_withRail rfl)
  exact ((entered.trans (timed _).undisturbed).trans
    ((aside_enqueueAnnounce _).trans aside_recomputeAllowance).undisturbed).trans undisturbed_lookForRow

theorem undisturbed_enterJoined : Undisturbed s (enterJoined s) := by
  have joined : Undisturbed s (s.withStart { s.start with life := .joined, joinTimer := none }) :=
    undisturbed_withStart rfl
  exact (joined.trans ((aside_tryContend.trans aside_recomputeAllowance).trans aside_judgeRise).undisturbed).trans
    undisturbed_startDrift

theorem aside_resetLinkControl : Aside s (resetLinkControl s) := aside_withLink rfl

theorem AtRest.resetRailShare (h : AtRest s) : AtRest (resetRailShare s) := by
  refine AtRest.of_aside (h.recomputePattern ?_ ?_ ?_) (aside_withRail ?_) <;> rfl

theorem atRest_linkReset : AtRest (linkReset s) := by
  have reset : AtRest (pageReset s) := atRest_pageReset
  unfold linkReset
  generalize pageReset s = w at reset
  have cleared : AtRest (resetRailShare (resetLinkControl w)) := (reset.of_aside aside_resetLinkControl).resetRailShare
  generalize resetRailShare _ = v at cleared
  have banked : AtRest (v.withBank { v.bank with lastAnnounced := 0 }) := cleared.of_aside (aside_withBank _)
  refine (banked.of_undisturbed (undisturbed_withTouch ?_)).of_undisturbed undisturbed_enterListening
  rfl

theorem AtRest.delivery (h : AtRest s) (d : Delivery s t) : AtRest t := by
  cases d with
  | page => exact h.takePage _ _
  | content => exact h.takeContent _ _ _ _ _
  | turn => exact h.takeTurn _ _
  | settled => exact h.takeSettled _ _ _
  | draw => exact h.takeDraw _ _ _ _
  | query => exact h.answerQuery _ _ _
  | pageReset => exact atRest_pageReset
  | linkReset => exact atRest_linkReset
  | nothing => exact h

theorem PatternRight.finishScan (h : PatternRight s) (x : Vector PinSet 24) : AtRest (finishScan x s) := by
  have scanned : Aside s (scanImage x s) := ⟨(changes_scanImage s x).mono (by decide),
    by rw [(changes_scanImage s x).link], by rw [(changes_scanImage s x).rail]⟩
  have copied : PatternRight (copiedScan x s) :=
    (h.of_aside scanned).of_undisturbed (undisturbed_withPage rfl rfl rfl)
  rw [finishScan_eq]
  exact (atRest_planNotices (refreshRows_right _ copied)).of_undisturbed undisturbed_enterListening

theorem undisturbed_passTime : Undisturbed s (passTime s) := by
  refine SameInputs.undisturbed ⟨rfl, rfl, rfl, rfl, ?_, ?_, rfl⟩ rfl rfl id
  · exact List.map_map
  · exact List.any_map

/-! ### The line, the pipeline and the touch guard -/

theorem AtRest.lineComesUp (h : AtRest s) : AtRest (lineComesUp s) := by
  unfold Machine.lineComesUp
  split
  · exact h
  · have c := changes_recomputeAllowance (s.withLink { s.link with lineUp := true, quiet := true })
    exact (h.recomputePattern c.page c.plan c.pipe).of_aside aside_tryContend

theorem AtRest.lineGoesDown (h : AtRest s) : AtRest (lineGoesDown s) := by
  unfold Machine.lineGoesDown
  split
  · have cut := h.of_aside (aside_cutOff (s := s))
    dsimp only
    generalize cutOff s = v at cut
    have c := changes_recomputeAllowance (v.withLink { v.link with lineUp := false, quiet := false, wait := none })
    exact cut.recomputePattern c.page c.plan c.pipe
  · exact h

theorem AtRest.senseStage (h : AtRest s) (x : PinSet) : AtRest (senseStage x s) := by
  unfold Machine.senseStage
  split
  · exact h
  · have emptied : PatternRight (s.withPipe { s.pipe with sense := none }) :=
      h.pattern.of_plant (changes_withPipe _ _) (hf := rfl)
    have c (r : Nat) (m : Moves) (n : Nat) (v : Bool) (u : State) := changes_recomputeRow r m n v u
    exact atRest_planNotices ((emptied.of_aside (aside_senseRow _ _)).of_plant (c _ _ _ _ _)
      (hf := by rw [(c _ _ _ _ _).touch]))

theorem undisturbed_settleStage : Undisturbed s (settleStage s) := by
  unfold settleStage
  split
  · exact .refl s
  · exact undisturbed_withPipe id

theorem undisturbed_strikeStage : Undisturbed s (strikeStage s) := by
  unfold strikeStage
  split
  · exact .refl s
  · split
    · exact undisturbed_withPipe id
    · exact .refl s

theorem undisturbed_loadStage : Undisturbed s (loadStage s) := by
  unfold loadStage
  split
  · refine (undisturbed_withPipe ?_).trans undisturbed_tryFire
    exact id
  · exact .refl s

theorem AtRest.engineCheck (h : AtRest s) : AtRest (engineCheck s) := by
  have idle : AtRest (becomeIdle s) := by
    have stopped : PatternRight (s.withPipe { s.pipe with engine := .idle, stepTimer := none }) :=
      h.pattern.of_plant (changes_withPipe _ _) (hf := rfl)
    exact atRest_settleCheck (stopped.of_undisturbed undisturbed_startDrift)
  unfold Machine.engineCheck
  split
  · split
    · split
      · refine (h.of_undisturbed (undisturbed_withPipe ?_)).of_undisturbed undisturbed_admitRow
        exact fun hi => nomatch hi
      · exact idle
    · exact idle
    · exact h
  · exact h

theorem AtRest.runStep (h : AtRest s) (x : PinSet) : AtRest (runStep x s) := by
  have moved := (((h.senseStage x).of_undisturbed undisturbed_settleStage).of_undisturbed
    undisturbed_strikeStage).of_undisturbed undisturbed_loadStage
  unfold Machine.runStep
  refine AtRest.engineCheck ?_
  unfold admissionStage
  split
  · exact moved.of_undisturbed undisturbed_admitRow
  · exact moved

theorem any_failed_modify (lines : List LineGuard) (l : Nat) {f : LineGuard → LineGuard}
    (hf : ∀ g, (f g).failed = g.failed) : (lines.modify l f).any (·.failed) = lines.any (·.failed) := by
  have flags : (lines.modify l f).map LineGuard.failed = lines.map LineGuard.failed := by
    apply List.ext_getElem?
    intro i
    rw [List.getElem?_map, List.getElem?_modify, List.getElem?_map]
    cases lines[i]? with
    | none => rfl
    | some g =>
      by_cases hl : l = i
      · simp [hl, hf]
      · simp [hl]
  have any := congrArg (fun flags => flags.any id) flags
  simpa only [List.any_map, Function.comp_def, id] using any

theorem failed_guardStep {f : LineGuard → LineGuard} (hf : GuardStep f) (g : LineGuard) : (f g).failed = g.failed := by
  cases hf with
  | begins => unfold LineGuard.presenceBegins; cases g.guard <;> rfl
  | ends => unfold LineGuard.presenceEnds; cases g.guard <;> rfl
  | arrival => unfold LineGuard.arrivalExpires; split <;> rfl
  | departure => unfold LineGuard.departureExpires; split <;> rfl

theorem undisturbed_guardEvent (l : Nat) {f : LineGuard → LineGuard} (hf : GuardStep f) :
    Undisturbed s (guardEvent l f s) := by
  have changed : Undisturbed s (changeLine l f s) :=
    undisturbed_of_plant (changes_withTouch _ _) (hf := any_failed_modify _ _ (failed_guardStep hf)) (hi := id)
  unfold guardEvent
  dsimp only
  split
  · exact changed
  · split
    · exact changed.trans (undisturbed_lineCloses l)
    · exact changed.trans undisturbed_quietNotices

theorem AtRest.stripFails (h : AtRest s) (l : Nat) : AtRest (stripFails l s) := by
  unfold Machine.stripFails
  split
  · have failed : AtRest (Machine.recomputePattern (changeLine l LineGuard.presenceExpires s)) :=
      h.recomputePattern rfl rfl rfl
    dsimp only
    split
    · exact failed.of_undisturbed undisturbed_quietNotices
    · exact failed
  · exact h

theorem aside_senseLine (l : Nat) (a b c d : PinSet) : Aside s (senseLine l a b c d s) :=
  (((aside_senseRow _ _).trans (aside_senseRow _ _)).trans (aside_senseRow _ _)).trans (aside_senseRow _ _)

theorem AtRest.driftExpires (h : AtRest s) (a b c d : PinSet) : AtRest (driftExpires a b c d s) := by
  unfold Machine.driftExpires
  split
  · have restarted : AtRest (s.withTouch { s.touch with driftTimer := some 0 }) :=
      h.of_undisturbed (undisturbed_withTouch rfl)
    dsimp only
    split
    · exact restarted
    · rename_i l _
      generalize s.withTouch { s.touch with driftTimer := some 0 } = v at restarted
      have pointed : AtRest (v.withTouch { v.touch with rotation := (l + 1) % lineCount v }) :=
        restarted.of_undisturbed (undisturbed_withTouch rfl)
      exact atRest_planNotices (refreshRows_right _ (pointed.pattern.of_aside (aside_senseLine _ _ _ _ _)))
  · exact h

/-- R187: before LISTENING no page has been turned and no work has begun. -/
theorem atRest_of_noWorkYet (h : NoWorkYet s) : AtRest s := by
  obtain ⟨idle, unturned, blank, -⟩ := h
  refine ⟨?_, fun can => ?_⟩
  · unfold PatternRight patternOf
    rw [if_pos unturned, blank]
  · rw [canSettle_iff, idle] at can
    exact nomatch can.1

/-- Every event leaves the page at rest. -/
theorem atRest_event (e : Event s t) (before : BeforeListeningOk s) (h : AtRest s) : AtRest t := by
  cases e with
  | nothing => exact h
  | powerOn straps => exact atRest_of_noWorkYet ⟨rfl, rfl, rfl, planEmpty_reset, rfl, rfl, rfl, rfl, rfl, rfl⟩
  | holdReset => exact atRest_of_noWorkYet ⟨rfl, rfl, rfl, planEmpty_reset, rfl, rfl, rfl, rfl, rfl, rfl⟩
  | endConfig memory strips hl =>
    obtain ⟨idle, unturned, blank, empty, engine, slots, step, drift, applied, rise⟩ :=
      before (by simp [onTheLink, hl])
    exact atRest_of_noWorkYet ⟨idle, unturned, blank, empty, engine, slots, step, drift, applied, rise⟩
  | finishScan sensed hl => exact h.pattern.finishScan sensed
  | enterJoined hd => exact h.of_undisturbed undisturbed_enterJoined
  | lineBusy => exact h.of_aside aside_lineBusy
  | counted c => exact h.of_aside (aside_lineBusy.trans (aside_count c))
  | clash => exact h.of_aside (aside_lineBusy.trans aside_noteClash)
  | delivered ho d => exact (h.of_aside aside_lineBusy).delivery d
  | quietGap => exact h.of_aside aside_quietGapEnds
  | slot => exact h.of_aside aside_beginAttempt
  | collision o ho hp => exact h.of_aside (aside_collide o)
  | jamEnd o ho hp => exact h.of_aside (aside_endJam o)
  | completes o ho hp => exact h.of_aside (aside_completeAttempt o)
  | linkUp => exact h.lineComesUp
  | linkDown => exact h.lineGoesDown
  | stepTimer sensed =>
    unfold stepExpires
    split
    · refine (h.of_undisturbed (undisturbed_withPipe ?_)).runStep sensed
      exact id
    · exact h
  | railTimer =>
    unfold railExpires
    split
    · dsimp only
      split
      · exact h.of_aside (aside_withBank _)
      · exact (h.of_aside ((aside_withBank _).trans aside_updateDemand)).of_undisturbed undisturbed_tryFire
    · exact h
  | refreshTimer => exact h.of_aside aside_refreshExpires
  | riseTimer => exact h.of_aside aside_riseExpires
  | entry station => exact h.expireEntry station
  | guard l hf => exact h.of_undisturbed (undisturbed_guardEvent l hf)
  | strip l => exact h.stripFails l
  | holdLimit =>
    have expired : AtRest (s.withTouch { s.touch with holdPhase := .expired, holdTime := holdLimitMs s }) :=
      h.of_undisturbed (undisturbed_withTouch rfl)
    unfold holdExpires
    split
    · exact expired.holdReport _
    · exact h
  | drift r0 r1 r2 r3 => exact h.driftExpires _ _ _ _
  | time => exact h.of_undisturbed undisturbed_passTime

end Rest

/-! ### Before LISTENING -/

/-- R187, R188: a tile in CONFIG or SCAN, where no work has begun. -/
structure Dormant (s : State) : Prop where
  off : onTheLink s = false
  work : NoWorkYet s

section Dormant
variable {s t : State}

theorem Dormant.of_changes {bs : List Block} (h : Dormant s) (c : Changes bs s t) (hs : Block.start ∉ bs := by decide)
    (hp : Block.page ∉ bs := by decide) (hl : Block.plan ∉ bs := by decide) (hi : Block.pipe ∉ bs := by decide)
    (ht : Block.touch ∉ bs := by decide) (ha : Block.pattern ∉ bs := by decide) (hr : Block.rail ∉ bs := by decide) :
    Dormant t := by
  obtain ⟨off, work⟩ := h
  refine ⟨by rwa [onTheLink_congr (c.start hs)], ?_⟩
  unfold NoWorkYet slotsEmpty planEmpty at *
  rwa [c.page hp, c.plan hl, c.pipe hi, c.touch ht, c.pattern ha, c.rail hr]

theorem Dormant.withTouch {x : Touch} (h : Dormant s) (hx : x.driftTimer = s.touch.driftTimer) :
    Dormant (s.withTouch x) := by
  obtain ⟨off, idle, unturned, blank, empty, engine, slots, step, drift, applied, rise⟩ := h
  exact ⟨off, idle, unturned, blank, empty, engine, slots, step, hx.trans drift, applied, rise⟩

theorem Dormant.withRail {x : RailShare} (h : Dormant s) (ha : x.applied = s.rail.applied)
    (hr : x.rise = s.rail.rise) : Dormant (s.withRail x) := by
  obtain ⟨off, idle, unturned, blank, empty, engine, slots, step, drift, applied, rise⟩ := h
  exact ⟨off, idle, unturned, blank, empty, engine, slots, step, drift, ha.trans applied, hr.trans rise⟩

theorem Dormant.rise (h : Dormant s) : s.rail.rise = none := by
  obtain ⟨_, _, _, _, _, _, _, _, _, _, rise⟩ := h
  exact rise

theorem Dormant.drift (h : Dormant s) : s.touch.driftTimer = none := by
  obtain ⟨_, _, _, _, _, _, _, _, drift, _, _⟩ := h
  exact drift

theorem Dormant.step (h : Dormant s) : s.pipe.stepTimer = none := by
  obtain ⟨_, _, _, _, _, _, _, step, _, _, _⟩ := h
  exact step

theorem Dormant.slots (h : Dormant s) : s.pipe.Empty := by
  obtain ⟨_, _, _, _, _, _, slots, _, _, _, _⟩ := h
  exact slotsEmpty_iff.mp slots

/-! What does nothing before LISTENING. -/

theorem Dormant.judgeRise_eq (h : Dormant s) : judgeRise s = s := by rw [judgeRise, h.rise]

theorem Dormant.recomputeAllowance_eq (h : Dormant s) : recomputeAllowance s = s := by
  unfold recomputeAllowance
  split
  · rfl
  · rw [if_neg (by simp [h.off])]

theorem Dormant.recomputePattern_eq (h : Dormant s) : recomputePattern s = s :=
  if_pos (atRest_of_noWorkYet h.work).pattern.symm

theorem Dormant.lookForRow_eq (h : Dormant s) : lookForRow s = s := if_neg (by simp [h.off])

theorem Dormant.tryFire_eq (h : Dormant s) : tryFire s = s := by
  obtain ⟨_, strike, _, _⟩ := h.slots
  rw [tryFire, strike]

theorem Dormant.judgeHold (h : Dormant s) : Dormant (judgeHold s) := by
  have c := changes_judgeHold s
  obtain ⟨off, work⟩ := h
  refine ⟨by rwa [onTheLink_congr c.start], ?_⟩
  unfold NoWorkYet slotsEmpty planEmpty at *
  rwa [c.page, c.plan, c.pipe, c.pattern, c.rail, judgeHold_touch]

theorem Dormant.quietNotices (h : Dormant s) : Dormant (quietNotices s) := by
  rw [Machine.quietNotices, h.lookForRow_eq]
  exact h.judgeHold

theorem Dormant.announceDemand (h : Dormant s) : Dormant (announceDemand s) := h.of_changes (changes_announceDemand s)

theorem Dormant.updateDemand (h : Dormant s) : Dormant (updateDemand s) := by
  unfold Machine.updateDemand
  dsimp only
  split
  · exact h
  · have announced := (h.of_changes (changes_withBank s { s.bank with demand := demandOf s.bank.charge })).announceDemand
    rwa [announced.recomputeAllowance_eq]

theorem Dormant.collide (h : Dormant s) (o : OnLine) : Dormant (collide o s) := by
  have collided : Dormant ((Machine.count .collisions s).withLink
      { collideLink o (Machine.count .collisions s).link with quiet := false }) :=
    (h.of_changes (changes_count _ _)).of_changes (changes_withLink _ _)
  unfold Machine.collide
  dsimp only
  split
  · rw [drawAbandoned, collided.judgeRise_eq]
    exact collided.announceDemand
  · exact collided

theorem Dormant.completeAttempt (h : Dormant s) (o : OnLine) : Dormant (completeAttempt o s) := by
  have completed : Dormant (s.withLink { (if headRenew s.link.queue then s.link.renewHead else s.link.popHead) with
      onLine := none, quiet := false }) := h.of_changes (changes_withLink _ _)
  unfold Machine.completeAttempt
  dsimp only
  split
  · exact completed
  · rename_i d _
    have carried := completed.of_changes (changes_withBank _ { s.bank with lastAnnounced := d })
    rw [drawCompleted]
    exact carried.judgeRise_eq.symm ▸ carried.announceDemand

theorem Dormant.cutOff (h : Dormant s) : Dormant (cutOff s) := by
  unfold Machine.cutOff
  split
  · exact h
  · split
    · exact h.of_changes (changes_endJam _ _)
    · exact (h.collide _).of_changes (changes_withLink _ _)

theorem Dormant.lineComesUp (h : Dormant s) : Dormant (lineComesUp s) := by
  unfold Machine.lineComesUp
  split
  · exact h
  · have up : Dormant (s.withLink { s.link with lineUp := true, quiet := true }) := h.of_changes (changes_withLink _ _)
    rw [up.recomputeAllowance_eq, up.recomputePattern_eq]
    exact up.of_changes (changes_tryContend _)

theorem Dormant.lineGoesDown (h : Dormant s) : Dormant (lineGoesDown s) := by
  unfold Machine.lineGoesDown
  split
  · have cut := h.cutOff
    dsimp only
    generalize Machine.cutOff s = v at cut
    have down : Dormant (v.withLink { v.link with lineUp := false, quiet := false, wait := none }) :=
      cut.of_changes (changes_withLink _ _)
    rwa [down.recomputeAllowance_eq, down.recomputePattern_eq]
  · exact h

theorem Dormant.expireEntry (h : Dormant s) (st : Byte) : Dormant (expireEntry st s) := by
  unfold Machine.expireEntry
  split
  · have dropped : Dormant (s.withRail { s.rail with view := dropStation s.rail.view st }) := h.withRail rfl rfl
    rwa [dropped.recomputePattern_eq, dropped.recomputeAllowance_eq]
  · exact h

theorem Dormant.lineCloses (h : Dormant s) (l : Nat) : Dormant (lineCloses l s) := by
  have withdrawn : Dormant (withdrawLine l s) := by
    obtain ⟨load, strike, settle, sense⟩ := h.slots
    have same : withdrawLine l s = s.withPipe s.pipe := by
      have pipe : ({ s.pipe with
          load := dropUnfired (fun r => r / 4 == l) s.pipe.load
          strike := dropUnfired (fun r => r / 4 == l) s.pipe.strike } : Pipeline) = s.pipe := by
        rw [load, strike]
        cases hp : s.pipe
        rw [hp] at load strike
        simp_all [dropUnfired]
      rw [withdrawLine, pipe]
    rw [same]
    exact h
  exact withdrawn.judgeHold

theorem Dormant.guardEvent (h : Dormant s) (l : Nat) (f : LineGuard → LineGuard) : Dormant (guardEvent l f s) := by
  have changed : Dormant (changeLine l f s) := h.withTouch rfl
  unfold Machine.guardEvent
  dsimp only
  split
  · exact changed
  · split
    · exact changed.lineCloses l
    · exact changed.quietNotices

theorem Dormant.stripFails (h : Dormant s) (l : Nat) : Dormant (stripFails l s) := by
  have failed : Dormant (changeLine l LineGuard.presenceExpires s) := h.withTouch rfl
  unfold Machine.stripFails
  split
  · rw [failed.recomputePattern_eq]
    dsimp only
    split
    · exact failed.quietNotices
    · exact failed
  · exact h

theorem Dormant.holdExpires (h : Dormant s) : Dormant (holdExpires s) := by
  unfold Machine.holdExpires
  split
  · have expired : Dormant (s.withTouch { s.touch with holdPhase := .expired, holdTime := holdLimitMs s }) :=
      h.withTouch rfl
    obtain ⟨_, idle, _⟩ := expired
    rw [holdReport, if_neg (by rw [idle]; exact fun hc => nomatch hc.1)]
    exact h.withTouch rfl
  · exact h

theorem Dormant.railExpires (h : Dormant s) : Dormant (railExpires s) := by
  unfold Machine.railExpires
  split
  · have gained (x : Bank) : Dormant (s.withBank x) := h.of_changes (changes_withBank _ _)
    dsimp only
    split
    · exact gained _
    · rw [(gained _).updateDemand.tryFire_eq]
      exact (gained _).updateDemand
  · exact h

theorem Dormant.refreshExpires (h : Dormant s) : Dormant (refreshExpires s) := by
  unfold Machine.refreshExpires
  split
  · have restarted : Dormant (s.withRail { s.rail with refreshTimer := some 0 }) := h.withRail rfl rfl
    exact restarted.of_changes (changes_enqueueAnnounce _ _)
  · exact h

theorem Dormant.passTime (h : Dormant s) : Dormant (passTime s) := by
  obtain ⟨off, idle, unturned, blank, empty, engine, slots, step, drift, applied, rise⟩ := h
  exact ⟨off, idle, unturned, blank, empty, engine, slots, congrArg (Timer.tick stepPeriod) step,
    congrArg (Timer.tick driftPeriod) drift, applied, congrArg (Option.map Rise.tick) rise⟩

/-! Every event. -/

/-- An event that leaves the start-up block alone needs a look before LISTENING only. -/
theorem beforeListening_of_start (h : BeforeListeningOk s) (hstart : t.start = s.start)
    (hd : Dormant s → Dormant t) : BeforeListeningOk t := by
  intro off
  rw [onTheLink_congr hstart] at off
  exact (hd ⟨off, h off⟩).work

theorem beforeListening_of_on (h : onTheLink t = true) : BeforeListeningOk t := fun off => by
  rw [h] at off
  cases off

theorem enterListening_life (s : State) : (enterListening s).start.life = .listening := by
  have c (v : State) := ((changes_enqueueAnnounce .draw v).comp (changes_recomputeAllowance _)
    (ds := [.link, .draws, .rail, .pipe, .touch])).comp (changes_lookForRow _) (ds := [.link, .draws, .rail, .pipe, .touch])
  unfold enterListening
  dsimp only
  rw [(c _).start]
  rfl

theorem enterJoined_life (s : State) : (enterJoined s).start.life = .joined := by
  have c (v : State) := (((changes_tryContend v).comp (changes_recomputeAllowance _)
    (ds := [.link, .draws, .rail, .touch])).comp (changes_judgeRise _) (ds := [.link, .draws, .rail, .touch])).comp
      (changes_startDrift _) (ds := [.link, .draws, .rail, .touch])
  unfold enterJoined
  dsimp only
  rw [(c _).start]
  rfl

theorem onTheLink_enterListening (s : State) : onTheLink (enterListening s) = true := by
  simp [onTheLink, enterListening_life]

theorem onTheLink_enterJoined (s : State) : onTheLink (enterJoined s) = true := by
  simp [onTheLink, enterJoined_life]

theorem onTheLink_delivery (h : onTheLink s = true) (d : Delivery s t) : onTheLink t = true := by
  cases d with
  | page => rwa [onTheLink_congr (changes_takePage _ _ _).start]
  | content => rwa [onTheLink_congr (changes_takeContent _ _ _ _ _ _).start]
  | turn => rwa [onTheLink_congr (changes_takeTurn _ _ _).start]
  | settled => rwa [onTheLink_congr (changes_takeSettled _ _ _ _).start]
  | draw => rwa [onTheLink_congr (changes_takeDraw _ _ _ _ _).start]
  | query => rwa [onTheLink_congr (changes_answerQuery _ _ _ _).start]
  | pageReset => rwa [onTheLink_congr (changes_pageReset _).start]
  | linkReset => exact onTheLink_enterListening _
  | nothing => exact h

theorem beforeListening_event (e : Event s t) (h : BeforeListeningOk s) : BeforeListeningOk t := by
  cases e with
  | nothing => exact h
  | powerOn straps => exact fun _ => ⟨rfl, rfl, rfl, planEmpty_reset, rfl, rfl, rfl, rfl, rfl, rfl⟩
  | holdReset => exact fun _ => ⟨rfl, rfl, rfl, planEmpty_reset, rfl, rfl, rfl, rfl, rfl, rfl⟩
  | endConfig memory strips hl => exact fun _ => h (by simp [onTheLink, hl])
  | finishScan sensed hl => exact beforeListening_of_on (onTheLink_enterListening _)
  | enterJoined hd => exact beforeListening_of_on (onTheLink_enterJoined _)
  | lineBusy => exact beforeListening_of_start h rfl fun d => d.of_changes (changes_lineBusy _)
  | counted c => exact beforeListening_of_start h rfl fun d => d.of_changes (changes_count_lineBusy _)
  | clash =>
    exact beforeListening_of_start h rfl fun d =>
      (d.of_changes (changes_lineBusy _)).of_changes ((changes_withLink _ _).trans (changes_count _ _))
  | delivered ho d => exact beforeListening_of_on (onTheLink_delivery (s := Machine.lineBusy s) ho d)
  | quietGap =>
    exact beforeListening_of_start h (changes_quietGapEnds s).start fun d => d.of_changes (changes_quietGapEnds s)
  | slot => exact beforeListening_of_start h (changes_beginAttempt s).start fun d => d.of_changes (changes_beginAttempt s)
  | collision o ho hp => exact beforeListening_of_start h (changes_collide o s).start fun d => d.collide o
  | jamEnd o ho hp => exact beforeListening_of_start h rfl fun d => d.of_changes (changes_endJam o s)
  | completes o ho hp => exact beforeListening_of_start h (changes_completeAttempt o s).start fun d => d.completeAttempt o
  | linkUp => exact beforeListening_of_start h (changes_lineComesUp s).start Dormant.lineComesUp
  | linkDown => exact beforeListening_of_start h (changes_lineGoesDown s).start Dormant.lineGoesDown
  | stepTimer sensed =>
    refine beforeListening_of_start h (changes_stepExpires _ s).start fun d => ?_
    rw [stepExpires, d.step]
    exact d
  | railTimer => exact beforeListening_of_start h (changes_railExpires s).start Dormant.railExpires
  | refreshTimer => exact beforeListening_of_start h aside_refreshExpires.changes.start Dormant.refreshExpires
  | riseTimer =>
    refine beforeListening_of_start h aside_riseExpires.changes.start fun d => ?_
    rw [riseExpires, d.rise]
    exact d
  | entry station => exact beforeListening_of_start h (changes_expireEntry _ s).start fun d => d.expireEntry _
  | guard l hf => exact beforeListening_of_start h (changes_guardEvent _ _ s).start fun d => d.guardEvent _ _
  | strip l => exact beforeListening_of_start h (changes_stripFails _ s).start fun d => d.stripFails _
  | holdLimit => exact beforeListening_of_start h (changes_holdExpires s).start Dormant.holdExpires
  | drift r0 r1 r2 r3 =>
    refine beforeListening_of_start h (changes_driftExpires _ _ _ _ s).start fun d => ?_
    rw [driftExpires, d.drift]
    exact d
  | time =>
    intro off
    have before : Dormant s := ⟨off, h off⟩
    exact before.passTime.work

end Dormant

/-! ### The obligation -/

theorem workOk_iff {s : State} : WorkOk s ↔ ¬ canSettle s = true := by
  rw [canSettle_iff]
  exact ⟨fun h ⟨working, empty, idle⟩ => h working empty idle, fun h working empty idle => h ⟨working, empty, idle⟩⟩

theorem turned_of_before {s : State} (h : BeforeListeningOk s) (off : onTheLink s = false) : s.page.turned = 0 := by
  obtain ⟨_, unturned, _⟩ := h off
  exact unturned

/-- Settles O58: the start-up block and the plan with the slots, the page assembler's own rules, the page at rest, and
the tile before LISTENING, each through every event. -/
theorem everyStepKeepsThePageAndThePlan : Obligations.EveryStepKeepsThePageAndThePlan := by
  unfold Obligations.EveryStepKeepsThePageAndThePlan
  intro s t ⟨start, sizes, staging, state, plan, ⟨pattern, _⟩, work, before⟩ slots hstep
  obtain ⟨q, event⟩ := step_event hstep
  have core : CoreOk (s.withPending q) := CoreOk.congr (coreOk_iff.mpr ⟨start, plan, slots⟩) rfl rfl rfl rfl
  have page : PageRules (s.withPending q) := ⟨sizes, staging, state⟩
  have rest : AtRest (s.withPending q) := ⟨pattern, workOk_iff.mp work⟩
  obtain ⟨start', plan', -⟩ := coreOk_events.event event core
  obtain ⟨sizes', staging', state'⟩ := pageRules_events.event event page
  obtain ⟨pattern', settled'⟩ := atRest_event event before rest
  have before' := beforeListening_event event before
  exact ⟨start', sizes', staging', state', plan', ⟨pattern', turned_of_before before'⟩, workOk_iff.mpr settled', before'⟩

end Sys2Proof.Machine
end

section
/-!
The arithmetic of the rail share (R119, R126 to R129): no share exceeds its demand, and all the shares together never
exceed the effective limit.
-/

namespace Sys2Proof.Machine

/-! ### Sums -/

theorem floorSum_add_excessSum (f : Nat) (demands : List Nat) : floorSum f demands + excessSum f demands = demands.sum := by
  unfold floorSum excessSum
  induction demands with
  | nil => rfl
  | cons x xs ih =>
    simp only [List.map_cons, List.sum_cons, floorPart] at ih ⊢
    omega

/-- The rounded-down parts of an amount shared out in proportion make at most the amount's rounded-down whole. -/
theorem sum_proportions_le (g : Nat → Nat) (k m : Nat) (xs : List Nat) :
    (xs.map (fun x => k * g x / m)).sum ≤ k * (xs.map g).sum / m := by
  induction xs with
  | nil => simp
  | cons x xs ih =>
    simp only [List.map_cons, List.sum_cons, Nat.mul_add]
    exact (Nat.add_le_add_left ih _).trans Nat.div_add_div_le_add_div

theorem proportion_le {k m x : Nat} (h : k ≤ m) : k * x / m ≤ x :=
  Nat.div_le_of_le_mul (Nat.mul_le_mul_right x h)

theorem floorSum_le (f : Nat) (demands : List Nat) : floorSum f demands ≤ demands.length * f := by
  unfold floorSum
  have bound := List.sum_le_card_nsmul (demands.map (floorPart f)) f fun x hx => by
    obtain ⟨y, _, rfl⟩ := List.mem_map.mp hx
    exact Nat.min_le_right _ _
  rwa [List.length_map, smul_eq_mul] at bound

/-! ### Shares -/

section Share
variable {lEff f : Nat} {demands : List Nat}

/-- R128: no share exceeds the demand it answers. -/
theorem shareOf_le (x : Nat) : shareOf lEff f demands x ≤ x := by
  unfold shareOf
  split
  · exact Nat.le_refl x
  · rename_i hd
    split
    · rename_i hm
      exact (proportion_le hm).trans (Nat.min_le_left _ _)
    · rename_i hm
      have split := floorSum_add_excessSum f demands
      have rest : (lEff - floorSum f demands) * (x - floorPart f x) / excessSum f demands ≤ x - floorPart f x :=
        proportion_le (by omega)
      have part : floorPart f x ≤ x := Nat.min_le_left _ _
      omega

/-- R128, case 2: a share exceeds no floor part. -/
theorem shareOf_le_floorPart (hd : lEff < demands.sum) (hm : lEff ≤ floorSum f demands) (x : Nat) :
    shareOf lEff f demands x ≤ floorPart f x := by
  rw [shareOf, if_neg (Nat.not_le.mpr hd), if_pos hm]
  exact proportion_le hm

/-- R128: the shares of a demand set never exceed the effective limit. -/
theorem sum_shares_le (lEff f : Nat) (demands : List Nat) : (demands.map (shareOf lEff f demands)).sum ≤ lEff := by
  by_cases hd : demands.sum ≤ lEff
  · have same : demands.map (shareOf lEff f demands) = demands := by
      rw [List.map_congr_left (g := id) fun x _ => by rw [shareOf, if_pos hd]; rfl, List.map_id]
    rwa [same]
  by_cases hm : lEff ≤ floorSum f demands
  · rw [List.map_congr_left (g := fun x => lEff * floorPart f x / floorSum f demands)
      fun x _ => by rw [shareOf, if_neg hd, if_pos hm]]
    refine (sum_proportions_le _ _ _ _).trans ?_
    exact Nat.div_le_of_le_mul (by rw [Nat.mul_comm]; exact Nat.le_refl _)
  · rw [List.map_congr_left (g := fun x => floorPart f x +
        (lEff - floorSum f demands) * (x - floorPart f x) / excessSum f demands)
      fun x _ => by rw [shareOf, if_neg hd, if_neg hm]]
    rw [List.sum_map_add]
    have rest : (demands.map (fun x => (lEff - floorSum f demands) * (x - floorPart f x) / excessSum f demands)).sum ≤
        lEff - floorSum f demands := by
      refine (sum_proportions_le _ _ _ _).trans ?_
      exact Nat.div_le_of_le_mul (by rw [Nat.mul_comm]; exact Nat.le_refl _)
    have floors : (demands.map (floorPart f)).sum = floorSum f demands := rfl
    omega

end Share

section Settings
variable (c : Settings) (own : Nat) (view : List PeerEntry)

theorem computeAllowance_le (up : Bool) : computeAllowance c own view up ≤ own := by
  unfold computeAllowance
  dsimp only
  split
  · exact shareOf_le own
  · exact (Nat.min_le_left _ _).trans (shareOf_le own)

/-- R129: while the line is down the allowance is capped at F. -/
theorem computeAllowance_down_le : computeAllowance c own view false ≤ floorShare c := Nat.min_le_right _ _

/-- R126, R127: with at most P − 1 entries live the demand set has P members. -/
theorem length_demandSet {own n : Nat} {view : List PeerEntry} (hn : 1 ≤ n) (h : view.length ≤ n - 1) :
    (demandSet own n view).length = n := by
  simp only [demandSet, missingPeers, List.length_cons, List.length_append, List.length_map, List.length_replicate]
  omega

/-- R128: the floor parts reach the effective limit only when more than P − 1 peers are live. -/
theorem floorSum_lt_of_view_le {c : Settings} {view : List PeerEntry} (hn : 1 ≤ c.tileCount)
    (hl : 0 < effectiveLimit c.railLimit) (h : view.length ≤ c.tileCount - 1) :
    floorSum (floorShare c) (demandSet own c.tileCount view) < effectiveLimit c.railLimit := by
  have bound := floorSum_le (floorShare c) (demandSet own c.tileCount view)
  rw [length_demandSet hn h] at bound
  have half : 2 * c.tileCount * floorShare c ≤ effectiveLimit c.railLimit := Nat.mul_div_le _ _
  have twice : 2 * c.tileCount * floorShare c = 2 * (c.tileCount * floorShare c) := Nat.mul_assoc _ _ _
  omega

end Settings

/-- Settles O54, from the sums of the shares. -/
theorem sharesNeverExceedTheRail : Obligations.SharesNeverExceedTheRail := by
  unfold Obligations.SharesNeverExceedTheRail
  intro c own view hn hr _
  have limit : 563 ≤ effectiveLimit c.railLimit := by unfold effectiveLimit; omega
  have split := floorSum_add_excessSum (floorShare c) (demandSet own c.tileCount view)
  refine ⟨rfl, limit, rfl, computeAllowance_le c own view true,
    sum_shares_le (effectiveLimit c.railLimit) (floorShare c) (demandSet own c.tileCount view), fun hd hm => ⟨?_, ?_⟩,
    fun hd hm => ?_, rfl⟩
  · by_contra few
    exact absurd (floorSum_lt_of_view_le own hn (by omega) (Nat.not_lt.mp few)) (Nat.not_lt.mpr hm)
  · exact shareOf_le_floorPart hd hm own
  · change effectiveLimit c.railLimit < (demandSet own c.tileCount view).sum at hd
    change floorSum (floorShare c) (demandSet own c.tileCount view) < effectiveLimit c.railLimit at hm
    change excessSum (floorShare c) (demandSet own c.tileCount view) = _ - floorSum (floorShare c) _ ∧
      effectiveLimit c.railLimit - floorSum (floorShare c) _ < excessSum (floorShare c) (demandSet own c.tileCount view)
    omega

end Sys2Proof.Machine
end

section
/-!
The charge bank, the view and the allowance through every event (R108, R113, R120 to R125, R130 to R137).
-/

namespace Sys2Proof.Machine

section Start
variable {s t : State}

theorem StartOk.of_life {x : StartUp} (h : StartOk s) (hsettings : x.settings = s.start.settings)
    (hl : s.start.life ≠ .config) (hlife : x.life ≠ .config) (hjoin : x.joinTimer.isSome = true ↔ x.life = .listening) :
    StartOk (s.withStart x) := by
  obtain ⟨config, _, inRange⟩ := h
  refine ⟨?_, hjoin, fun c hc => inRange c (hsettings ▸ hc)⟩
  rw [State.withStart_start, hsettings, ← config]
  exact ⟨fun hc => absurd hc hlife, fun hc => absurd hc hl⟩

theorem startOk_reset (h : t.start.life = .config ∧ t.start.settings = none ∧ t.start.joinTimer = none) : StartOk t := by
  obtain ⟨h1, h2, h3⟩ := h
  exact ⟨by simp [h1, h2], by simp [h1, h3], fun c hc => by simp [h2] at hc⟩

theorem startOk_events : KeptByEvents StartOk where
  side c h := h.of_changes c.changes
  share c h := h.of_changes c
  linkWork := keptByLinkWork_of_changes fun c h => h.of_changes c
  plantWork := keptByPlantWork_of_changes fun c h => h.of_changes c
  clearStrips h := h.of_changes (changes_clearStrips _)
  powerOn _ _ := startOk_reset ⟨rfl, rfl, rfl⟩
  holdReset _ := startOk_reset ⟨rfl, rfl, rfl⟩
  endConfig {s} memory strips hl h := by
    refine ⟨by simp [endConfig], ?_, fun c hc => ?_⟩
    · have noTimer := h.2.1
      rw [hl] at noTimer
      exact ⟨fun ht => (nomatch noTimer.mp ht), fun hx => (nomatch hx)⟩
    · obtain rfl : settingsOf s.start.straps memory = c := Option.some.inj hc
      exact settingsOk_settingsOf _ _
  listening {s} hl _ h := (h.of_life (x := { s.start with life := .listening, joinTimer := some 0 }) rfl hl
    (fun hx => nomatch hx) (by simp)).congr rfl
  enterJoined {s} hd h := by
    have listening : s.start.life = .listening := by
      refine h.2.1.mp ?_
      cases hj : s.start.joinTimer with
      | none => rw [hj] at hd; cases hd
      | some n => rfl
    have joined : StartOk (s.withStart { s.start with life := .joined, joinTimer := none }) :=
      h.of_life rfl (by rw [listening]; decide) (fun hx => nomatch hx) (by simp)
    exact (((joined.of_changes (changes_tryContend _)).of_changes
      (changes_recomputeAllowance _)).of_changes (changes_judgeRise _)).of_changes (changes_startDrift _)
  passTime {s} h := by
    obtain ⟨config, join, inRange⟩ := h
    refine ⟨config, ?_, inRange⟩
    show (Timer.tick joinPeriod s.start.joinTimer).isSome = true ↔ _
    rw [Timer.tick, Option.isSome_map]
    exact join

/-- On the link settings are in force. -/
theorem StartOk.settings_on (h : StartOk s) (ho : onTheLink s = true) : ∃ c, s.start.settings = some c := by
  refine Option.ne_none_iff_exists'.mp fun hn => ?_
  simp [onTheLink, h.1.mpr hn] at ho

end Start

/-! ### The rules -/

section Rail
variable {s t : State}

/-- The rules of the charge bank and the rail share. -/
structure RailRules (s : State) : Prop where
  bank : BankOk s
  view : ViewOk s
  allowance : AllowanceOk s

theorem BankOk.congr (h : BankOk s) (hcharge : t.bank.charge = s.bank.charge) (hdemand : t.bank.demand = s.bank.demand) :
    BankOk t := by
  unfold BankOk at *
  rwa [hcharge, hdemand]

theorem ViewOk.congr (h : ViewOk s) (hstart : t.start = s.start) (hview : t.rail.view = s.rail.view) : ViewOk t := by
  unfold ViewOk station onTheLink at *
  rwa [hstart, hview]

theorem AllowanceOk.congr (h : AllowanceOk s) (hstart : t.start = s.start) (hdemand : t.bank.demand = s.bank.demand)
    (hrail : t.rail = s.rail) (hline : t.link.lineUp = s.link.lineUp) : AllowanceOk t := by
  unfold AllowanceOk onTheLink at *
  rwa [hstart, hdemand, hrail, hline]

/-- Before LISTENING the allowance reads neither own demand, nor the view, nor the line. -/
theorem AllowanceOk.of_off (h : AllowanceOk s) (off : onTheLink s = false) (hstart : t.start = s.start)
    (hcomputed : t.rail.computed = s.rail.computed) (happlied : t.rail.applied = s.rail.applied)
    (hrise : t.rail.rise = s.rail.rise) : AllowanceOk t := by
  obtain ⟨below, full, target, _, _, listening, zero⟩ := h
  unfold AllowanceOk
  rw [onTheLink_congr hstart, hstart, hcomputed, happlied, hrise]
  refine ⟨below, full, target, fun _ c _ => ?_, fun ho => ?_, listening, zero⟩
  · rw [zero off]
    exact Nat.zero_le _
  · rw [off] at ho
    cases ho

theorem RailRules.congr (h : RailRules s) (hstart : t.start = s.start) (hcharge : t.bank.charge = s.bank.charge)
    (hdemand : t.bank.demand = s.bank.demand) (hrail : t.rail = s.rail) (hline : t.link.lineUp = s.link.lineUp) :
    RailRules t :=
  ⟨h.bank.congr hcharge hdemand, h.view.congr hstart (by rw [hrail]), h.allowance.congr hstart hdemand hrail hline⟩

theorem RailRules.of_changes {bs : List Block} (h : RailRules s) (c : Changes bs s t) (hs : Block.start ∉ bs := by decide)
    (hb : Block.bank ∉ bs := by decide) (hr : Block.rail ∉ bs := by decide) (hl : Block.link ∉ bs := by decide) :
    RailRules t := by
  have bank := c.bank hb
  exact h.congr (c.start hs) (by rw [bank]) (by rw [bank]) (c.rail hr) (by rw [c.link hl])

/-- Work of the link controller that leaves the line state alone. -/
theorem RailRules.of_link {bs : List Block} (h : RailRules s) (c : Changes bs s t) (hline : t.link.lineUp = s.link.lineUp)
    (hs : Block.start ∉ bs := by decide) (hb : Block.bank ∉ bs := by decide) (hr : Block.rail ∉ bs := by decide) :
    RailRules t := by
  have bank := c.bank hb
  exact h.congr (c.start hs) (by rw [bank]) (by rw [bank]) (c.rail hr) hline

theorem railRules_reset (hstart : t.start.life = .config ∧ t.start.settings = none)
    (hbank : t.bank = State.reset.bank) (hrail : t.rail = State.reset.rail) : RailRules t := by
  obtain ⟨life, settings⟩ := hstart
  have off : onTheLink t = false := by simp [onTheLink, life]
  refine ⟨?_, ?_, ?_⟩
  · unfold BankOk
    rw [hbank]
    decide
  · unfold ViewOk
    rw [hrail]
    exact ⟨by decide, List.nodup_nil, fun _ he => (nomatch he), List.Pairwise.nil, fun _ => rfl⟩
  · unfold AllowanceOk
    rw [off, hrail, life, settings]
    exact ⟨Nat.le_refl _, by decide, fun _ hr => (nomatch hr), fun _ _ hc => (nomatch hc), fun ho => (nomatch ho),
      fun hl => (nomatch hl), fun _ => rfl⟩

/-! ### Page work -/

theorem railRules_settled (h : RailRules s) : RailRules (settledAndAnnounced s) :=
  h.of_link changes_settledAndAnnounced (by rw [settledAndAnnounced_link]; exact (kept_enqueueAnnounce s _).1)

theorem railRules_work : KeptByWork RailRules where
  setPattern h := h.of_changes (changes_setPattern _)
  refreshRow _ h := h.of_changes (changes_refreshRow _ _)
  lookForRow h := h.of_changes (changes_lookForRow _)
  judgeHold h := h.of_changes (changes_judgeHold _)
  settled _ h := railRules_settled h

theorem railRules_pageWork : KeptByPageWork RailRules where
  side c h := h.of_changes c.changes
  queueWork :=
    { count := fun k h => h.of_link (changes_count k _) rfl
      enqueueReply := fun r h => h.of_link (changes_enqueueReply r _) (aside_enqueueReply r).lineUp
      enqueueAnnounce := fun k h => h.of_link (changes_enqueueAnnounce k _) (aside_enqueueAnnounce k).lineUp
      zeroCounters := fun h => h.of_link (changes_withLink _ _) rfl }
  plantWork := keptByPlantWork_of_changes fun c h => h.of_changes c
  clearStrips := clearStrips_keeps railRules_work (fun h => h.of_changes (changes_withTouch _ _))
    (fun l h => h.of_changes (changes_lineCloses l _))

/-! ### The allowance recomputed -/

/-- R135: what LISTENING asks of the applied allowance and the pending rise. -/
def ListeningHeld (s : State) : Prop :=
  s.start.life = .listening → s.rail.applied = 0 ∧ ∀ r, s.rail.rise = some r → r.phase = .held

theorem AllowanceOk.held (h : AllowanceOk s) : ListeningHeld s := by
  obtain ⟨_, _, _, _, _, listening, _⟩ := h
  exact listening

/-- R131: the rise after an application lies above the applied allowance and leads to the computed one. -/
theorem AllowanceApplied.target (h : AllowanceApplied s t) :
    ∀ r, t.rail.rise = some r → r.target = t.rail.computed ∧ t.rail.applied < r.target := by
  obtain ⟨applied, rise⟩ := h
  intro r hr
  by_cases above : t.rail.computed ≤ s.rail.applied
  · rw [if_pos above, hr] at rise
    cases rise
  · have target : r.target = t.rail.computed := by
      rw [if_neg above] at rise
      dsimp only at rise
      split at rise
      · obtain rfl := Option.some.inj (hr.symm.trans rise)
        rfl
      · split at rise
        · obtain rfl := Option.some.inj (hr.symm.trans rise)
          rfl
        · rename_i same
          split at rise
          · obtain rfl := Option.some.inj (hr.symm.trans rise)
            exact not_not.mp same
          · obtain rfl := Option.some.inj (hr.symm.trans rise)
            exact not_not.mp same
    exact ⟨target, by rw [target, applied]; omega⟩

/-- R135: an application in LISTENING leaves the applied allowance 0 and a rise held. -/
theorem AllowanceApplied.held (h : AllowanceApplied s t) (hstart : t.start = s.start) (hl : ListeningHeld s) :
    ListeningHeld t := by
  obtain ⟨applied, rise⟩ := h
  intro listening
  obtain ⟨zero, held⟩ := hl (by rw [← hstart]; exact listening)
  refine ⟨by rw [applied, zero]; exact Nat.zero_min _, fun r hr => ?_⟩
  split at rise
  · rw [hr] at rise
    cases rise
  · dsimp only at rise
    rw [listening] at rise
    split at rise
    · obtain rfl := Option.some.inj (hr.symm.trans rise)
      rfl
    · rename_i r' hr'
      split at rise
      · obtain rfl := Option.some.inj (hr.symm.trans rise)
        rfl
      · rw [if_neg (fun hc => nomatch hc.2.1)] at rise
        obtain rfl := Option.some.inj (hr.symm.trans rise)
        exact held _ hr'

/-- R130: after a recomputation on the link the allowance is as its rules say. -/
theorem allowanceOk_recomputed (start : StartOk s) (ho : onTheLink s = true) (hd : s.bank.demand ≤ fullDemand)
    (hl : ListeningHeld s) : AllowanceOk (recomputeAllowance s) := by
  obtain ⟨c, hc⟩ := start.settings_on ho
  have changes := changes_recomputeAllowance s
  obtain ⟨_, _, computed, applied⟩ := recomputeAllowance_spec (s := s) hc ho
  have below : (recomputeAllowance s).rail.applied ≤ (recomputeAllowance s).rail.computed := by
    rw [applied.1]
    exact Nat.min_le_right _ _
  have same (c' : Settings) (hc' : (recomputeAllowance s).start.settings = some c') : c' = c := by
    rw [changes.start, hc] at hc'
    exact (Option.some.inj hc').symm
  refine ⟨below, ?_, applied.target, fun down c' hc' => ?_, fun _ c' hc' => ?_, applied.held changes.start hl,
    fun off => ?_⟩
  · rw [computed, changes.bank]
    exact (computeAllowance_le _ _ _ _).trans hd
  · rw [same c' hc', computed, down]
    exact computeAllowance_down_le _ _ _
  · rw [same c' hc', computed]
  · rw [onTheLink_congr changes.start, ho] at off
    cases off

theorem demand_le (h : BankOk s) : s.bank.demand ≤ fullDemand := by
  rw [h.2]
  exact (demandOf_spec _).1

theorem railRules_recomputeAllowance (start : StartOk s) (bank : BankOk s) (view : ViewOk s)
    (hon : onTheLink s = true → ListeningHeld s) (hoff : onTheLink s = false → AllowanceOk s) :
    RailRules (recomputeAllowance s) := by
  have changes := changes_recomputeAllowance s
  refine ⟨bank.congr (by rw [changes.bank]) (by rw [changes.bank]),
    view.congr changes.start aside_recomputeAllowance.view, ?_⟩
  cases ho : onTheLink s with
  | true => exact allowanceOk_recomputed start ho (demand_le bank) (hon ho)
  | false =>
    rw [recomputeAllowance_off s ho]
    exact hoff ho

/-- R134: a held rise judged afresh. -/
theorem RailRules.judgeRise (h : RailRules s) : RailRules (judgeRise s) := by
  unfold Machine.judgeRise
  split
  · exact h
  · rename_i r hr
    split
    · rename_i hc
      obtain ⟨held, released⟩ := hc
      obtain ⟨below, full, target, cap, computed, listening, zero⟩ := h.allowance
      refine ⟨h.bank, h.view, below, full, fun r' hr' => ?_, cap, computed, fun hl => ?_, zero⟩
      · obtain rfl := Option.some.inj hr'
        exact target r hr
      · have joined : s.start.life = .joined := by
          simp only [holdReleased, Bool.and_eq_true, beq_iff_eq] at released
          exact released.1
        rw [State.withRail_start, joined] at hl
        cases hl
    · exact h

/-! ### The charge bank -/

theorem RailRules.announceDemand (h : RailRules s) : RailRules (announceDemand s) :=
  h.of_link (changes_announceDemand s) aside_announceDemand.lineUp

/-- R113: own demand worked out afresh from a charge that has changed. -/
theorem railRules_updateDemand (start : StartOk s) (charge : s.bank.charge ≤ bankLimit) (view : ViewOk s)
    (allowance : AllowanceOk s) : RailRules (updateDemand s) := by
  unfold updateDemand
  dsimp only
  split
  · rename_i same
    exact ⟨⟨charge, same.symm⟩, view, allowance⟩
  · have c := changes_announceDemand (s.withBank { s.bank with demand := demandOf s.bank.charge })
    have start' : StartOk (Machine.announceDemand (s.withBank { s.bank with demand := demandOf s.bank.charge })) :=
      start.congr c.start
    have bank' : BankOk (Machine.announceDemand (s.withBank { s.bank with demand := demandOf s.bank.charge })) := by
      unfold BankOk
      rw [c.bank]
      exact ⟨charge, rfl⟩
    refine railRules_recomputeAllowance start' bank' (view.congr c.start (by rw [c.rail]; rfl)) (fun _ => ?_) fun off => ?_
    · unfold ListeningHeld
      rw [c.start, c.rail]
      exact allowance.held
    · rw [onTheLink_congr c.start] at off
      exact allowance.of_off off c.start (by rw [c.rail]; rfl) (by rw [c.rail]; rfl) (by rw [c.rail]; rfl)

theorem RailRules.tryFire (start : StartOk s) (h : RailRules s) : RailRules (tryFire s) := by
  unfold Machine.tryFire
  split
  · exact h
  · rename_i x _
    split
    · refine railRules_updateDemand (start.congr rfl) ?_ (h.view.congr rfl rfl) (h.allowance.congr rfl rfl rfl rfl)
      exact (Nat.sub_le _ _).trans h.bank.1
    · exact h

theorem RailRules.railExpires (start : StartOk s) (h : RailRules s) : RailRules (railExpires s) := by
  unfold Machine.railExpires
  split
  · dsimp only
    split
    · rename_i zero
      exact h.congr rfl (by rw [State.withBank_bank, zero]; rfl) rfl rfl rfl
    · have gained : RailRules (Machine.updateDemand (s.withBank { s.bank with
          railTimer := some 0, transfer := railGain s, charge := s.bank.charge + railGain s })) := by
        refine railRules_updateDemand (start.congr rfl) ?_ (h.view.congr rfl rfl) (h.allowance.congr rfl rfl rfl rfl)
        have room : railGain s ≤ bankLimit - s.bank.charge := Nat.min_le_right _ _
        have charge := h.bank.1
        show s.bank.charge + railGain s ≤ bankLimit
        omega
      exact RailRules.tryFire (start.congr (changes_updateDemand _).start) gained
  · exact h

theorem RailRules.riseExpires (h : RailRules s) : RailRules (riseExpires s) := by
  unfold Machine.riseExpires
  split
  · exact h
  · rename_i r hr
    split
    · exact h
    · rename_i n hp
      split
      · obtain ⟨below, full, target, cap, computed, listening, zero⟩ := h.allowance
        obtain ⟨reached, _⟩ := target r hr
        refine ⟨h.bank, h.view, Nat.le_of_eq reached, full, fun _ hr' => (nomatch hr'), cap, computed, fun hl => ?_, zero⟩
        have held := (listening hl).2 r hr
        rw [hp] at held
        cases held
      · exact h

/-! ### The line -/

theorem RailRules.collide (h : RailRules s) (o : OnLine) : RailRules (collide o s) := by
  have collided : RailRules ((count .collisions s).withLink
      { collideLink o (count .collisions s).link with quiet := false }) :=
    h.of_link ((changes_count _ _).trans (changes_withLink _ _)) (collideLink_lineUp o _)
  unfold Machine.collide
  dsimp only
  split
  · exact collided.judgeRise.announceDemand
  · exact collided

theorem RailRules.completeAttempt (h : RailRules s) (o : OnLine) : RailRules (completeAttempt o s) := by
  have completed : RailRules (s.withLink { (if headRenew s.link.queue then s.link.renewHead else s.link.popHead) with
      onLine := none, quiet := false }) := by
    refine h.of_link (changes_withLink _ _) ?_
    rw [State.withLink_link]
    dsimp only
    split <;> rfl
  unfold Machine.completeAttempt
  dsimp only
  split
  · exact completed
  · rename_i d _
    have carried : RailRules ((s.withLink { (if headRenew s.link.queue then s.link.renewHead else s.link.popHead) with
        onLine := none, quiet := false }).withBank { s.bank with lastAnnounced := d }) :=
      completed.congr rfl rfl rfl rfl rfl
    exact carried.judgeRise.announceDemand

theorem RailRules.cutOff (h : RailRules s) : RailRules (cutOff s) := by
  unfold Machine.cutOff
  split
  · exact h
  · split
    · exact h.of_link (changes_endJam _ _) (aside_endJam _).lineUp
    · exact (h.collide _).of_link (changes_withLink _ _) rfl

/-- R33: the line state changes and the allowance is recomputed. -/
theorem RailRules.lineChanges {x : Link} (start : StartOk s) (h : RailRules s) :
    RailRules (recomputeAllowance (s.withLink x)) :=
  railRules_recomputeAllowance (start.congr rfl) (h.bank.congr rfl rfl) (h.view.congr rfl rfl)
    (fun _ => h.allowance.held) (fun off => h.allowance.of_off off rfl rfl rfl rfl)

theorem RailRules.lineComesUp (start : StartOk s) (h : RailRules s) : RailRules (lineComesUp s) := by
  unfold Machine.lineComesUp
  split
  · exact h
  · exact (railRules_work.recomputePattern (h.lineChanges start)).of_link (changes_tryContend _) aside_tryContend.lineUp

theorem RailRules.lineGoesDown (start : StartOk s) (h : RailRules s) : RailRules (lineGoesDown s) := by
  unfold Machine.lineGoesDown
  split
  · have cut := h.cutOff
    have start' := start.of_changes (changes_cutOff s)
    dsimp only
    generalize Machine.cutOff s = v at cut start'
    exact railRules_work.recomputePattern (cut.lineChanges start')
  · exact h

/-! ### The view -/

/-- A view that its entries' rules allow on the link. -/
structure GoodView (s : State) (view : List PeerEntry) : Prop where
  length : view.length ≤ viewLimit
  nodup : (view.map (·.station)).Nodup
  entries : ∀ e ∈ view, e.demand ≤ fullDemand ∧ e.remaining ≤ entryLife ∧ station s ≠ some e.station
  ordered : view.Pairwise (fun a b => a.remaining ≤ b.remaining)

theorem ViewOk.good (h : ViewOk s) : GoodView s s.rail.view := by
  obtain ⟨length, nodup, entries, ordered, _⟩ := h
  exact ⟨length, nodup, entries, ordered⟩

theorem GoodView.sublist {view view' : List PeerEntry} (h : GoodView s view) (hs : view'.Sublist view) : GoodView s view' :=
  ⟨hs.length_le.trans h.length, h.nodup.sublist (hs.map _), fun e he => h.entries e (hs.subset he), h.ordered.sublist hs⟩

/-- R121: an entry with the latest deadline joins a view that has no entry of its station. -/
theorem GoodView.append {view : List PeerEntry} {e : PeerEntry} (h : GoodView s view) (hlen : view.length < viewLimit)
    (hnew : ∀ x ∈ view, x.station ≠ e.station) (hd : e.demand ≤ fullDemand) (hr : e.remaining = entryLife)
    (hst : station s ≠ some e.station) : GoodView s (view ++ [e]) := by
  refine ⟨?_, ?_, fun x hx => ?_, ?_⟩
  · rw [List.length_append]
    exact hlen
  · rw [List.map_append, List.nodup_append]
    refine ⟨h.nodup, List.nodup_singleton _, fun a ha b hb => ?_⟩
    obtain ⟨x, hx, rfl⟩ := List.mem_map.mp ha
    rw [List.mem_singleton.mp hb]
    exact hnew x hx
  · rcases List.mem_append.mp hx with hx | hx
    · exact h.entries x hx
    · rw [List.mem_singleton.mp hx]
      exact ⟨hd, Nat.le_of_eq hr, hst⟩
  · rw [List.pairwise_append]
    refine ⟨h.ordered, List.pairwise_singleton _ _, fun a ha b hb => ?_⟩
    rw [List.mem_singleton.mp hb, hr]
    exact (h.entries a ha).2.1

theorem inView_iff {view : List PeerEntry} {st : Byte} : inView view st = true ↔ ∃ e ∈ view, e.station = st := by
  simp [inView]

theorem dropStation_ne {view : List PeerEntry} {st : Byte} {e : PeerEntry} (h : e ∈ dropStation view st) :
    e.station ≠ st := by
  simp only [dropStation, List.mem_filter, bne_iff_ne] at h
  exact h.2

/-- R121, R124: the view renewed, extended, or with its earliest entry displaced. -/
theorem GoodView.renewEntry {view : List PeerEntry} {e : PeerEntry} (h : GoodView s view) (hd : e.demand ≤ fullDemand)
    (hr : e.remaining = entryLife) (hst : station s ≠ some e.station) : GoodView s (renewEntry view e) := by
  unfold Machine.renewEntry
  split
  · rename_i hin
    obtain ⟨x, hx, hxe⟩ := inView_iff.mp hin
    refine (h.sublist List.filter_sublist).append ?_ (fun _ hy => dropStation_ne hy) hd hr hst
    refine Nat.lt_of_lt_of_le ?_ h.length
    exact List.length_filter_lt_length_iff_exists.mpr ⟨x, hx, by simp [hxe]⟩
  · rename_i hout
    have new : ∀ x ∈ view, x.station ≠ e.station := fun x hx hxe => hout (inView_iff.mpr ⟨x, hx, hxe⟩)
    split
    · rename_i room
      exact h.append room new hd hr hst
    · refine (h.sublist (List.tail_sublist _)).append ?_ (fun x hx => new x (List.mem_of_mem_tail hx)) hd hr hst
      have length := h.length
      have limit : viewLimit = 15 := rfl
      rw [List.length_tail]
      omega

/-- A view whose entries keep station and demand, and the order of their deadlines. -/
theorem GoodView.map {view : List PeerEntry} {f : PeerEntry → PeerEntry} (h : GoodView s view)
    (hstation : ∀ e, (f e).station = e.station) (hdemand : ∀ e, (f e).demand = e.demand)
    (hle : ∀ e, (f e).remaining ≤ e.remaining)
    (hmono : ∀ a b : PeerEntry, a.remaining ≤ b.remaining → (f a).remaining ≤ (f b).remaining) : GoodView s (view.map f) := by
  refine ⟨by rw [List.length_map]; exact h.length, ?_, fun x hx => ?_, ?_⟩
  · rw [List.map_map, List.map_congr_left (f := PeerEntry.station ∘ f) (g := PeerEntry.station) fun e _ => hstation e]
    exact h.nodup
  · obtain ⟨e, he, rfl⟩ := List.mem_map.mp hx
    obtain ⟨demand, life, other⟩ := h.entries e he
    exact ⟨by rwa [hdemand], (hle e).trans life, by rwa [hstation]⟩
  · exact h.ordered.map f hmono

theorem GoodView.viewOk {view : List PeerEntry} (h : GoodView s view) (hview : t.rail.view = view)
    (hstart : t.start = s.start) (hoff : onTheLink s = false → view = []) : ViewOk t := by
  obtain ⟨length, nodup, entries, ordered⟩ := h
  unfold ViewOk
  rw [hview, onTheLink_congr hstart, station, hstart]
  exact ⟨length, nodup, entries, ordered, hoff⟩

/-- The view changes, the pattern is worked out and the allowance recomputed. -/
theorem RailRules.viewChanges {view : List PeerEntry} (start : StartOk s) (h : RailRules s) (hv : GoodView s view)
    (hoff : onTheLink s = false → view = []) :
    RailRules (recomputeAllowance (recomputePattern (s.withRail { s.rail with view := view }))) := by
  have c := changes_recomputePattern (s.withRail { s.rail with view := view })
  refine railRules_recomputeAllowance (start.congr c.start)
    (h.bank.congr (by rw [c.bank]; rfl) (by rw [c.bank]; rfl))
    (hv.viewOk (by rw [c.rail]; rfl) c.start hoff) (fun _ => ?_) fun off => ?_
  · unfold ListeningHeld
    rw [c.start, c.rail]
    exact h.allowance.held
  · rw [onTheLink_congr c.start] at off
    exact h.allowance.of_off off c.start (by rw [c.rail]; rfl) (by rw [c.rail]; rfl) (by rw [c.rail]; rfl)

theorem not_off (ho : onTheLink s = true) {p : Prop} : onTheLink s = false → p := fun off => by
  rw [ho] at off
  cases off

theorem RailRules.takeDraw {sender demand : Byte} (start : StartOk s) (h : RailRules s) (ho : onTheLink s = true)
    (hd : demand.toNat ≤ 12) (hst : station s ≠ some sender) (serial : Half) (outcome : Byte) :
    RailRules (takeDraw sender demand serial outcome s) := by
  refine h.viewChanges start (h.view.good.renewEntry ?_ rfl hst) (not_off ho)
  show demand.toNat * 50 ≤ 600
  omega

theorem RailRules.expireEntry (start : StartOk s) (h : RailRules s) (st : Byte) : RailRules (expireEntry st s) := by
  unfold Machine.expireEntry
  split
  · refine h.viewChanges start (h.view.good.sublist List.filter_sublist) fun off => ?_
    obtain ⟨_, _, _, _, empty⟩ := h.view
    rw [empty off]
    rfl
  · exact h

theorem computeAllowance_settled (c : Settings) (own : Nat) (view : List PeerEntry) (sender : Byte) (serial : Half)
    (outcome : Byte) (up : Bool) :
    computeAllowance c own (settleEntry view sender serial outcome) up = computeAllowance c own view up := by
  have demands : demandSet own c.tileCount (settleEntry view sender serial outcome) = demandSet own c.tileCount view := by
    unfold demandSet settleEntry
    rw [List.length_map, List.map_map, List.map_congr_left (g := (·.demand))]
    intro e _
    show (if e.station = sender then _ else e).demand = e.demand
    split <;> rfl
  unfold computeAllowance
  rw [demands]

theorem RailRules.takeSettled (h : RailRules s) (ho : onTheLink s = true) (sender : Byte) (serial : Half)
    (outcome : Byte) : RailRules (takeSettled sender serial outcome s) := by
  unfold Machine.takeSettled
  split
  · refine railRules_work.recomputePattern ⟨h.bank, ?_, ?_⟩
    · refine (h.view.good.map (f := fun e => if e.station = sender then
        { e with serial := serial, outcome := outcomeOfCode outcome } else e) ?_ ?_ ?_ ?_).viewOk rfl rfl (not_off ho)
      · intro e; split <;> rfl
      · intro e; split <;> rfl
      · intro e; split <;> exact Nat.le_refl _
      · intro a b hab
        split <;> split <;> exact hab
    · obtain ⟨below, full, target, cap, computed, listening, zero⟩ := h.allowance
      refine ⟨below, full, target, cap, fun hon c hc => ?_, listening, zero⟩
      rw [State.withRail_rail]
      dsimp only
      rw [computeAllowance_settled]
      exact computed hon c hc
  · exact h

/-! ### The start-up logic -/

/-- R188: LISTENING entered with the applied allowance 0 and no rise pending. -/
theorem railRules_enterListening (start : StartOk s) (hl : s.start.life ≠ .config) (bank : BankOk s) (view : GoodView s s.rail.view)
    (happlied : s.rail.applied = 0) (hrise : s.rail.rise = none) : RailRules (enterListening s) := by
  have entered (v : State) (hs : StartOk v) (hb : BankOk v) (hv : GoodView v v.rail.view) (ho : onTheLink v = true)
      (ha : v.rail.applied = 0) (hr : v.rail.rise = none) :
      RailRules (lookForRow (recomputeAllowance (enqueueAnnounce .draw v))) := by
    have c := changes_enqueueAnnounce .draw v
    refine RailRules.of_changes (railRules_recomputeAllowance (hs.of_changes c)
      (hb.congr (by rw [c.bank]) (by rw [c.bank])) (hv.viewOk (by rw [c.rail]) c.start (not_off ho)) (fun _ _ => ?_)
      fun off => ?_) (changes_lookForRow _)
    · rw [c.rail, ha, hr]
      exact ⟨rfl, fun _ hx => (nomatch hx)⟩
    · rw [onTheLink_congr c.start, ho] at off
      cases off
  have listening : StartOk (s.withStart { s.start with life := .listening, joinTimer := some 0 }) :=
    start.of_life rfl hl (fun hx => nomatch hx) (by simp)
  exact entered _ (listening.congr rfl) (bank.congr rfl rfl) ⟨view.length, view.nodup, view.entries, view.ordered⟩
    rfl happlied hrise

theorem RailRules.finishScan (x : Vector PinSet 24) (hl : s.start.life = .scan) (start : StartOk s) (h : RailRules s) :
    RailRules (finishScan x s) := by
  have scanned := railRules_pageWork.scanTaken x h
  have start' := startOk_events.toKeptByPageWork.scanTaken x start
  have life : (planNotices (refreshRows (statusRows (copiedScan x s)) (copiedScan x s))).start.life = .scan := by
    rw [(changes_planNotices _).start, (changes_refreshRows _ _).start]
    exact (congrArg StartUp.life (changes_scanImage s x).start).trans hl
  rw [finishScan_eq]
  generalize planNotices _ = v at scanned start' life
  have off : onTheLink v = false := by simp [onTheLink, life]
  obtain ⟨below, _, target, _, _, _, zero⟩ := scanned.allowance
  rw [zero off] at below target
  refine railRules_enterListening start' (by rw [life]; decide) scanned.bank scanned.view.good (Nat.le_zero.mp below) ?_
  cases hr : v.rail.rise with
  | none => rfl
  | some r =>
    obtain ⟨reached, above⟩ := target r hr
    omega

theorem RailRules.linkReset (start : StartOk s) (ho : onTheLink s = true) (h : RailRules s) : RailRules (linkReset s) := by
  have reset : RailRules (pageReset s) := railRules_pageWork.pageReset h
  have start' : StartOk (pageReset s) := start.of_changes (changes_pageReset s)
  have on : onTheLink (pageReset s) = true := by rwa [onTheLink_congr (changes_pageReset s).start]
  unfold Machine.linkReset
  generalize pageReset s = w at reset start' on
  have c := changes_resetRailShare (resetLinkControl w)
  have start'' : StartOk (resetRailShare (resetLinkControl w)) := start'.congr c.start
  have bank : BankOk (resetRailShare (resetLinkControl w)) :=
    (reset.bank.congr rfl rfl : BankOk (resetLinkControl w)).congr (by rw [c.bank]) (by rw [c.bank])
  have notConfig : (resetRailShare (resetLinkControl w)).start.life ≠ .config := by
    rw [c.start]
    intro config
    have off : onTheLink w = false := by simp [onTheLink, show w.start.life = .config from config]
    rw [off] at on
    cases on
  have view : (resetRailShare (resetLinkControl w)).rail.view = [] := by
    have r := changes_recomputePattern ((resetLinkControl w).withRail { (resetLinkControl w).rail with view := [] })
    unfold resetRailShare
    dsimp only
    rw [State.withRail_rail, r.rail]
    rfl
  have applied : (resetRailShare (resetLinkControl w)).rail.applied = 0 := rfl
  have rise : (resetRailShare (resetLinkControl w)).rail.rise = none := rfl
  generalize resetRailShare (resetLinkControl w) = v at start'' bank notConfig view applied rise
  refine railRules_enterListening (start''.congr rfl) notConfig (bank.congr rfl rfl) ?_ applied rise
  show GoodView _ v.rail.view
  rw [view]
  exact ⟨Nat.zero_le _, List.nodup_nil, fun _ he => (nomatch he), List.Pairwise.nil⟩

theorem RailRules.enterJoined (start : StartOk s) (hd : Timer.due joinPeriod s.start.joinTimer = true) (h : RailRules s) :
    RailRules (enterJoined s) := by
  have listening : s.start.life = .listening := by
    refine start.2.1.mp ?_
    cases hj : s.start.joinTimer with
    | none => rw [hj] at hd; cases hd
    | some n => rfl
  have start' : StartOk (s.withStart { s.start with life := .joined, joinTimer := none }) :=
    start.of_life rfl (by rw [listening]; decide) (fun hx => nomatch hx) (by simp)
  have good := h.view.good
  have c := changes_tryContend (s.withStart { s.start with life := .joined, joinTimer := none })
  have view : GoodView (s.withStart { s.start with life := .joined, joinTimer := none }) s.rail.view :=
    ⟨good.length, good.nodup, good.entries, good.ordered⟩
  have recomputed := railRules_recomputeAllowance (start'.of_changes c)
    (h.bank.congr (by rw [c.bank]; rfl) (by rw [c.bank]; rfl)) (view.viewOk (by rw [c.rail]; rfl) c.start (not_off rfl))
    (fun _ hl => by rw [c.start] at hl; cases hl) (by rw [onTheLink_congr c.start]; exact not_off rfl)
  exact recomputed.judgeRise.of_changes (changes_startDrift _)

theorem RailRules.endConfig (hl : s.start.life = .config) (h : RailRules s) (memory : List Byte) (strips : BitVec 6) :
    RailRules (endConfig memory strips s) := by
  have off : onTheLink s = false := by simp [onTheLink, hl]
  obtain ⟨_, _, _, _, empty⟩ := h.view
  obtain ⟨below, full, target, _, _, _, zero⟩ := h.allowance
  have noEntries : (Machine.endConfig memory strips s).rail.view = [] := empty off
  have noShare : (Machine.endConfig memory strips s).rail.computed = 0 := zero off
  refine ⟨h.bank, ?_, below, full, target, fun _ c _ => ?_, fun ho => (nomatch ho), fun hx => (nomatch hx), fun _ => noShare⟩
  · unfold ViewOk
    rw [noEntries]
    exact ⟨by decide, List.nodup_nil, fun _ he => (nomatch he), List.Pairwise.nil, fun _ => rfl⟩
  · rw [noShare]
    exact Nat.zero_le _

theorem tick_phase (r : Rise) : r.tick.target = r.target ∧ (r.phase = .held → r.tick.phase = .held) := by
  unfold Rise.tick
  cases hp : r.phase with
  | held => exact ⟨rfl, fun _ => hp⟩
  | settling n => exact ⟨rfl, fun h => nomatch h⟩

theorem computeAllowance_ticked (c : Settings) (own : Nat) (view : List PeerEntry) (up : Bool) :
    computeAllowance c own (view.map (fun e => { e with remaining := e.remaining - 1 })) up =
      computeAllowance c own view up := by
  have demands : demandSet own c.tileCount (view.map (fun e => { e with remaining := e.remaining - 1 })) =
      demandSet own c.tileCount view := by
    simp [demandSet, Function.comp_def]
  unfold computeAllowance
  rw [demands]

theorem RailRules.passTime (h : RailRules s) : RailRules (passTime s) := by
  obtain ⟨below, full, target, cap, computed, listening, zero⟩ := h.allowance
  obtain ⟨_, _, _, _, empty⟩ := h.view
  have good := h.view.good.map (f := fun e => { e with remaining := e.remaining - 1 }) (fun _ => rfl) (fun _ => rfl)
    (fun _ => Nat.sub_le _ _) (fun _ _ hab => Nat.sub_le_sub_right hab 1)
  refine ⟨h.bank, ⟨good.length, good.nodup, good.entries, good.ordered, fun off => ?_⟩, below, full, fun r hr => ?_, cap,
    fun ho c hc => ?_, fun hl => ⟨(listening hl).1, fun r hr => ?_⟩, zero⟩
  · show s.rail.view.map _ = []
    rw [empty off]
    rfl
  · obtain ⟨r', hr', rfl⟩ := Option.map_eq_some_iff.mp hr
    rw [(tick_phase r').1]
    exact target r' hr'
  · show s.rail.computed = computeAllowance c s.bank.demand (s.rail.view.map _) s.link.lineUp
    rw [computeAllowance_ticked]
    exact computed ho c hc
  · obtain ⟨r', hr', rfl⟩ := Option.map_eq_some_iff.mp hr
    exact (tick_phase r').2 ((listening hl).2 r' hr')

/-! ### Every event -/

theorem RailRules.delivery (start : StartOk s) (ho : onTheLink s = true) (h : RailRules s) (d : Delivery s t) :
    RailRules t := by
  cases d with
  | page _ _ hs => exact railRules_pageWork.takePage _ hs h
  | content _ _ _ _ _ hq => exact railRules_pageWork.takeContent _ _ _ _ hq h
  | turn => exact railRules_pageWork.takeTurn _ _ h
  | settled => exact h.takeSettled ho _ _ _
  | draw _ _ _ _ hd hst => exact h.takeDraw start ho hd hst _ _
  | query => exact railRules_pageWork.answerQuery _ _ _ h
  | pageReset => exact railRules_pageWork.pageReset h
  | linkReset => exact h.linkReset start ho
  | nothing => exact h

theorem RailRules.stepExpires (start : StartOk s) (x : PinSet) (h : RailRules s) : RailRules (stepExpires x s) := by
  have keep := railRules_pageWork
  have startKeep := startOk_events
  unfold Machine.stepExpires
  split
  · have timed : RailRules (s.withPipe { s.pipe with stepTimer := some 0, matrix := none }) :=
      h.of_changes (changes_withPipe _ _)
    have sensed := ((keep.senseStage x timed).of_changes (changes_settleStage _)).of_changes (changes_strikeStage _)
    have start' := (((startKeep.senseStage x (start.congr rfl : StartOk (s.withPipe
      { s.pipe with stepTimer := some 0, matrix := none }))).of_changes (changes_settleStage _)).of_changes
        (changes_strikeStage _))
    unfold runStep
    refine keep.engineCheck (RailRules.of_changes ?_ (changes_admissionStage _))
    unfold loadStage
    split
    · exact RailRules.tryFire (start'.congr rfl) (sensed.of_changes (changes_withPipe _ _))
    · exact sensed
  · exact h

/-- Every event keeps the rules of the bank and the rail share. -/
theorem railRules_event (e : Event s t) (start : StartOk s) (h : RailRules s) : RailRules t := by
  cases e with
  | nothing => exact h
  | powerOn straps => exact railRules_reset ⟨rfl, rfl⟩ rfl rfl
  | holdReset => exact railRules_reset ⟨rfl, rfl⟩ rfl rfl
  | endConfig memory strips hl => exact h.endConfig hl memory strips
  | finishScan sensed hl => exact h.finishScan sensed hl start
  | enterJoined hd => exact h.enterJoined start hd
  | lineBusy => exact h.of_link (changes_lineBusy s) rfl
  | counted c => exact h.of_link (changes_count_lineBusy c) rfl
  | clash =>
    exact h.of_link ((changes_lineBusy s).trans ((changes_withLink _ _).trans (changes_count _ _))) rfl
  | delivered ho d => exact RailRules.delivery (s := Machine.lineBusy s) (start.congr rfl) ho (h.of_link (changes_lineBusy s) rfl) d
  | quietGap => exact h.of_link (changes_quietGapEnds s) aside_quietGapEnds.lineUp
  | slot => exact h.of_link (changes_beginAttempt s) aside_beginAttempt.lineUp
  | collision o ho hp => exact h.collide o
  | jamEnd o ho hp => exact h.of_link (changes_endJam o s) (aside_endJam o).lineUp
  | completes o ho hp => exact h.completeAttempt o
  | linkUp => exact h.lineComesUp start
  | linkDown => exact h.lineGoesDown start
  | stepTimer sensed => exact h.stepExpires start sensed
  | railTimer => exact h.railExpires start
  | refreshTimer =>
    unfold refreshExpires
    split
    · have restarted : RailRules (s.withRail { s.rail with refreshTimer := some 0 }) := ⟨h.bank, h.view, h.allowance⟩
      exact restarted.of_link (changes_enqueueAnnounce _ _) (aside_enqueueAnnounce _).lineUp
    · exact h
  | riseTimer => exact h.riseExpires
  | entry station => exact h.expireEntry start station
  | guard l hf => exact h.of_changes (changes_guardEvent _ _ _)
  | strip l => exact railRules_pageWork.stripFails l h
  | holdLimit => exact railRules_pageWork.holdExpires h
  | drift r0 r1 r2 r3 => exact railRules_pageWork.driftExpires _ _ _ _ h
  | time => exact h.passTime

end Rail

/-- Settles O57: every event keeps the start-up block, and with it the bank, the view and the allowance. -/
theorem everyStepKeepsTheBankAndTheRailShare : Obligations.EveryStepKeepsTheBankAndTheRailShare := by
  unfold Obligations.EveryStepKeepsTheBankAndTheRailShare
  intro s t ⟨start, bank, view, allowance⟩ hstep
  obtain ⟨q, event⟩ := step_event hstep
  have rules : RailRules (s.withPending q) := ⟨bank, view, allowance⟩
  obtain ⟨bank', view', allowance'⟩ := railRules_event event start rules
  exact ⟨startOk_events.event event start, bank', view', allowance'⟩

end Sys2Proof.Machine
end

section
/-!
The link controller's own events (R24 to R33, R37) and the rail share's two small timers (R115, R132).
-/

namespace Sys2Proof.Machine

section Shared
variable {s t u : State}

/-- R24, R25, R31: what contention does. -/
theorem contended_tryContend (hlife : u.start.life = s.start.life) (hdraws : u.draws = s.draws) :
    Contended u.link s (tryContend u) := by
  unfold Contended
  rw [tryContend_link, tryContend_draws, ← hlife, ← hdraws]
  by_cases ready : headReady u = true
  · obtain ⟨joined, up, free, nonempty⟩ := headReady_iff.mp ready
    by_cases hq : u.link.quiet = true
    · by_cases hw : u.link.wait = none
      · simp [ready, joined, up, free, nonempty, hq, hw]
      · simp [ready, hw]
    · simp [ready, hq]
  · have not_ready := ready
    rw [headReady_iff] at not_ready
    rw [if_neg fun ⟨joined, up, free, nonempty, _⟩ => not_ready ⟨joined, up, free, nonempty⟩]
    simp [ready]

/-- R134: a held rise judged afresh. -/
theorem judgeRise_rise_eq : (judgeRise s).rail.rise = s.rail.rise.map fun r =>
    if r.phase = .held ∧ s.start.life = .joined ∧ (s.link.lineUp = false ∨ r.awaited ≤ s.bank.lastAnnounced) then
      { r with phase := .settling 0 }
    else r := by
  unfold judgeRise
  cases hr : s.rail.rise with
  | none => exact hr
  | some r =>
    have same : (r.phase = .held ∧ holdReleased s r = true) ↔
        (r.phase = .held ∧ s.start.life = .joined ∧ (s.link.lineUp = false ∨ r.awaited ≤ s.bank.lastAnnounced)) := by
      simp [holdReleased]
    dsimp only
    by_cases hc : r.phase = .held ∧ holdReleased s r = true
    · rw [if_pos hc, Option.map_some, if_pos (same.mp hc)]
      rfl
    · rw [if_neg hc, Option.map_some, if_neg fun h => hc (same.mpr h)]
      exact hr

end Shared

/-! ### Queueing an announcement -/

section Announcing
variable {s : State} {k : Announce}

/-- R30, R37: an announcement that finds one of its kind queued. -/
theorem renewQueued_spec :
    ((renewQueued k s).link = { s.link with queue := (renewQueued k s).link.queue, onLine := (renewQueued k s).link.onLine } ∧
      (renewQueued k s).draws = s.draws) ∧
    (∀ o f q, s.link.onLine = some o → o.holdsHead = true → s.link.queue = f :: q → QFrame.isAnnounce k f = true →
      (o.phase = .sending → (renewQueued k s).link.queue = .announce k true :: q ∧ (renewQueued k s).link.onLine = some o) ∧
      (o.phase = .jamming → (renewQueued k s).link.queue = s.link.queue ∧
        (renewQueued k s).link.onLine = some { o with preReset := false })) ∧
    ((∀ o f q, s.link.onLine = some o → s.link.queue = f :: q → o.holdsHead = true → QFrame.isAnnounce k f = false) →
      (renewQueued k s).link = s.link) := by
  refine ⟨⟨?_, (changes_renewQueued k s).draws⟩, fun o f q ho holds hq hk => ?_, fun notHead => ?_⟩
  · unfold renewQueued
    dsimp only
    split
    · rfl
    · split <;> rfl
  · have marked : f.marked = .announce k true := by
      cases f with
      | reply r => cases hk
      | announce k' b =>
        rw [QFrame.isAnnounce, beq_iff_eq] at hk
        rw [QFrame.marked, hk]
    refine ⟨fun hp => ?_, fun hp => ?_⟩
    · simp [renewQueued, Link.headSending, ho, holds, hq, hk, hp, mapHead, marked]
    · simp [renewQueued, Link.headSending, Link.headOnLine, ho, holds, hq, hk, hp]
  · unfold renewQueued
    cases hq : s.link.queue with
    | nil => simp
    | cons f q =>
      cases ho : s.link.onLine with
      | none => simp [Link.headSending, Link.headOnLine, ho]
      | some o =>
        by_cases holds : o.holdsHead = true
        · simp [notHead o f q ho hq holds]
        · simp [Link.headSending, Link.headOnLine, ho, holds]

/-- The head leaves a full queue where no frame stands before the REPLY taken out. -/
theorem headLeaves_iff {l : Link} {pre post : List QFrame} {r : Reply} (hq : l.queue = pre ++ .reply r :: post)
    (hpre : ∀ i f, pre[i]? = some f → QFrame.isReply f = true → i = 0 ∧ l.headOnLine = true)
    (hnil : pre = [] → l.headOnLine = false) : headLeaves l = true ↔ pre = [] := by
  unfold headLeaves
  rw [hq]
  cases pre with
  | nil => simp [hnil rfl, QFrame.isReply]
  | cons f pre =>
    have head := hpre 0 f rfl
    cases hf : f.isReply with
    | false => simp [hf]
    | true => simp [hf, (head hf).2]

/-- R30: the queue's rule for an announcement. -/
theorem announceQueued_enqueueAnnounce (k : Announce) (h : QueueOk s) : AnnounceQueued k s (enqueueAnnounce k s) := by
  obtain ⟨length, draws, settleds⟩ := h
  have kinds : KindsOk s.link.queue := fun k => by cases k <;> assumption
  refine ⟨queued_enqueueAnnounce s k, ?_⟩
  unfold enqueueAnnounce
  split
  · obtain ⟨⟨frame, sameDraws⟩, head, other⟩ := renewQueued_spec (s := s) (k := k)
    exact ⟨frame, sameDraws, head, other⟩
  · rw [show queueLimit = 6 from rfl]
    split
    · rw [joinTail_eq]
      exact contended_tryContend (u := s.withLink _) rfl rfl
    · rename_i full
      have full : queueLimit ≤ s.link.queue.length := Nat.not_lt.mp full
      obtain ⟨pre, r, post, hq, hdrop, hpre, hnil⟩ := dropOldestReply_split s.link.headOnLine kinds full
      refine ⟨pre, r, post, hq, hpre, hnil, ?_⟩
      have shorter := dropOldestReply_length s.link.headOnLine kinds full
      rw [hdrop] at shorter
      have nonempty : pre ++ post ≠ [] := fun he => by
        rw [he] at shorter
        unfold queueLimit at full
        simp at shorter
        omega
      have leaves : headLeaves s.link = decide (pre = []) := by
        have iff := headLeaves_iff hq hpre hnil
        by_cases he : pre = []
        · simp [he, iff.mpr he]
        · simpa [he] using fun hl => he (iff.mp hl)
      have room : (makeRoom s).link = { s.link with
          queue := pre ++ post
          counters := s.link.counters.inc .repliesDropped
          attempt := if pre = [] then 1 else s.link.attempt
          window := if pre = [] then 8 else s.link.window
          wait := if pre = [] then none else s.link.wait } := by
        rw [makeRoom_link, hdrop, leaves]
        simp
      rw [joinTail_eq, room]
      have contended := contended_tryContend (s := s)
        (u := (makeRoom s).withLink { (makeRoom s).link with
          queue := pre ++ post ++ [.announce k false]
          attempt := if pre ++ post = [] then 1 else if pre = [] then 1 else s.link.attempt
          window := if pre ++ post = [] then 8 else if pre = [] then 8 else s.link.window })
        (by rw [State.withLink_start, (changes_makeRoom s).start]) (changes_makeRoom s).draws
      rw [State.withLink_link, room] at contended
      simpa only [if_neg nonempty] using contended

end Announcing

/-- Settles O44: the queue's rule, for the DRAW of the refresh timer and for every announcement. -/
theorem refreshQueuesADraw : Obligations.RefreshQueuesADraw := by
  unfold Obligations.RefreshQueuesADraw
  refine ⟨fun s running queue => ⟨fun short => ?_, fun due => ?_⟩, fun k s queue =>
    ⟨_, rfl, changes_enqueueAnnounce k s, announceQueued_enqueueAnnounce k queue⟩⟩
  · show whenRunning s refreshExpires = _
    rw [whenRunning_running running, refreshExpires, if_neg (by rw [refreshPeriod, short]; decide)]
  · refine ⟨_, whenRunning_running running, ?_⟩
    rw [refreshExpires, if_pos (show Timer.due refreshPeriod s.rail.refreshTimer = true from due)]
    have restarted : QueueOk (s.withRail { s.rail with refreshTimer := some 0 }) := queue
    refine ⟨(changes_withRail _ _).comp (changes_enqueueAnnounce _ _), (changes_enqueueAnnounce _ _).rail,
      announceQueued_enqueueAnnounce .draw restarted⟩

/-- Settles O45. -/
theorem settleExpiryRaisesTheAllowance : Obligations.SettleExpiryRaisesTheAllowance := by
  unfold Obligations.SettleExpiryRaisesTheAllowance
  intro s running
  have runs : exec .settleTimerExpiry s = .next (riseExpires s) := whenRunning_running running
  refine ⟨fun r n hr hp => ⟨fun due => ⟨_, runs, ?_⟩, fun short => ?_⟩, fun held => ?_⟩
  · rw [riseExpires, hr]
    simp only [hp]
    rw [if_pos (show settlePeriod ≤ n from due)]
    exact ⟨changes_withRail _ _, rfl⟩
  · rw [runs, riseExpires, hr]
    simp only [hp]
    rw [if_neg (show ¬ settlePeriod ≤ n from Nat.not_le.mpr short)]
  · rw [runs, riseExpires]
    cases hr : s.rail.rise with
    | none => rfl
    | some r => simp only [held r hr]

/-! ### Contention and attempts -/

/-- Settles O34. -/
theorem quietGapDrawsASlotAndDeferralKeepsTheBackoff : Obligations.QuietGapDrawsASlotAndDeferralKeepsTheBackoff := by
  unfold Obligations.QuietGapDrawsASlotAndDeferralKeepsTheBackoff
  intro s running
  have runs : exec .quietGap s = .next (quietGapEnds s) := whenRunning_running running
  refine ⟨fun free => ⟨_, runs, changes_quietGapEnds s, ?_⟩, fun busy => ?_,
    ⟨_, whenRunning_running running, changes_lineBusy s, rfl⟩⟩
  · have ended : quietGapEnds s = tryContend (s.withLink { s.link with quiet := true }) := if_neg (by simp [free])
    rw [ended]
    have contended := contended_tryContend (s := s) (u := s.withLink { s.link with quiet := true }) rfl rfl
    unfold Contended at contended
    rw [State.withLink_link] at contended
    split
    · rename_i hc
      obtain ⟨joined, up, nonempty, noWait⟩ := hc
      rw [if_pos ⟨joined, up, free, nonempty, rfl, noWait⟩] at contended
      refine ⟨contended.1, contended.2, fun positive => ?_⟩
      rw [contended.1]
      exact ⟨_, rfl, Nat.mod_lt _ positive⟩
    · rename_i hc
      rwa [if_neg fun ⟨joined, up, _, nonempty, _, noWait⟩ => hc ⟨joined, up, nonempty, noWait⟩] at contended
  · rw [runs, quietGapEnds, if_pos busy]

/-- Settles O35. -/
theorem slotStartsTheHeadFrame : Obligations.SlotStartsTheHeadFrame := by
  unfold Obligations.SlotStartsTheHeadFrame
  intro s c running hc
  have runs : exec .slotBegins s = .next (beginAttempt s) := whenRunning_running running
  refine ⟨fun f q hq joined up free waits => ?_, fun noWait => ?_⟩
  · have ready : headReady s = true := headReady_iff.mpr ⟨joined, up, free, by simp [hq]⟩
    have begun : beginAttempt s = s.withLink { s.link with
        wait := none, quiet := false
        onLine := some { phase := .sending, holdsHead := true, preReset := false, sender := c.station,
                         body := frameBody s f } } := by
      have head : s.link.queue.head? = some f := by rw [hq]; rfl
      have own : station s = some c.station := by rw [station, hc]; rfl
      rw [beginAttempt, if_pos (by rw [ready, waits]; rfl), head, own]
    refine ⟨_, frameBody s f, runs, changes_beginAttempt s, by rw [begun]; rfl, by rw [begun]; rfl, by rw [begun]; rfl, ?_⟩
    cases f with
    | reply r => rfl
    | announce k renew =>
      cases k with
      | draw => simp [frameBody, drawBody, lineCount, cellCount, hc]
      | settled => rfl
  · rw [runs, beginAttempt, if_neg (by simp [noWait])]

/-- Settles O37. -/
theorem jamEndReleasesTheLine : Obligations.JamEndReleasesTheLine := by
  unfold Obligations.JamEndReleasesTheLine
  intro s running
  have runs : exec .jamEnd s = .next (whileJamming endJam s) := whenRunning_running running
  refine ⟨fun o ho hp => ?_, fun sending => ?_⟩
  · have jams : whileJamming endJam s = endJam o s := by
      unfold whileJamming
      rw [ho]
      exact if_pos hp
    refine ⟨endJam o s, jams ▸ runs, changes_endJam o s, rfl, rfl, ?_⟩
    unfold endJam
    by_cases hc : o.preReset = true ∧ o.holdsHead = true
    · simp [hc, Link.popHead, Link.freshBackoff]
    · rw [if_neg hc, if_neg (by simpa using hc)]
      rfl
  · rw [runs, whileJamming]
    cases ho : s.link.onLine with
    | none => rfl
    | some o => simp [sending o ho]

section Completing
variable {s : State}

/-- R114: the comparison of own demand with the last announced one. -/
theorem announceDemand_draws (h : s.link.quiet = false) : (announceDemand s).draws = s.draws := by
  unfold announceDemand
  split
  · rfl
  · exact draws_enqueueAnnounce s .draw h

theorem announceDemand_link (x : State) (hstart : s.start = x.start) (hlink : s.link = x.link) (hdraws : s.draws = x.draws) :
    (s.bank.demand = s.bank.lastAnnounced → (announceDemand s).link = x.link) ∧
    (s.bank.demand ≠ s.bank.lastAnnounced →
      (announceDemand s).link = (enqueueAnnounce .draw x).link ∧ Queued .draw (announceDemand s)) := by
  unfold announceDemand
  refine ⟨fun same => ?_, fun differs => ?_⟩
  · rw [if_pos same, hlink]
  · rw [if_neg differs]
    exact ⟨enqueueAnnounce_link_congr .draw hstart hlink hdraws, queued_enqueueAnnounce s .draw⟩

/-- R30, R26: the link controller once the head frame's attempt has ended: the frame leaves, or stays as a fresh one. -/
theorem headEnds_eq {l : Link} {f : QFrame} {q : List QFrame} (hq : l.queue = f :: q) :
    (if headRenew l.queue then l.renewHead else l.popHead) = { l with
      attempt := 1, window := 8, queue := if QFrame.renewMark f then QFrame.unmarked f :: q else q } := by
  rw [headRenew, hq]
  cases hm : f.renewMark <;> simp [hm, Link.renewHead, Link.popHead, Link.freshBackoff, mapHead, hq]

end Completing

/-- Settles O38: `headEnds_eq` for the queue, then for a DRAW the judgement of the held rise and the comparison of R114. -/
theorem completionAnnouncesTheDemand : Obligations.CompletionAnnouncesTheDemand := by
  unfold Obligations.CompletionAnnouncesTheDemand
  intro s o f q running ho hp hq _
  have runs : exec .attemptCompletes s = .next (completeAttempt o s) := by
    refine (whenRunning_running running).trans ?_
    rw [whileSending, ho]
    exact congrArg _ (if_pos hp)
  refine ⟨_, runs, ?_⟩
  unfold completeAttempt
  rw [headEnds_eq hq]
  cases hb : o.body with
  | draw demand fl lc fc cc ps serial outcome =>
    dsimp only [carriedDemand, drawCompleted]
    generalize hl : ({ s.link with
      onLine := none, quiet := false, attempt := 1, window := 8
      queue := if QFrame.renewMark f then QFrame.unmarked f :: q else q } : Link) = l
    generalize hv : (s.withLink l).withBank { (s.withLink l).bank with lastAnnounced := demand.toNat * 50 } = v
    have base : Changes [.bank, .link] s v :=
      hv ▸ (changes_withLink s l).comp (changes_withBank _ _)
    have judged := changes_judgeRise v
    have link : (judgeRise v).link = (s.withLink l).link := by rw [judged.link, ← hv]; rfl
    have bank : (judgeRise v).bank = { s.bank with lastAnnounced := demand.toNat * 50 } := by rw [judged.bank, ← hv]; rfl
    have notQuiet : (judgeRise v).link.quiet = false := by rw [link, ← hl]; rfl
    have announced := changes_announceDemand (judgeRise v)
    obtain ⟨same, differs⟩ := announceDemand_link (s := judgeRise v) (s.withLink l) (by rw [judged.start, ← hv]; rfl) link
      (by rw [judged.draws, ← hv]; rfl)
    refine ⟨(base.comp judged (ds := [.bank, .rail, .link, .draws])).comp announced, ?_, ?_, ?_, ?_, ?_⟩
    · rw [announceDemand_draws notQuiet, judged.draws, base.draws]
    · rw [announced.bank, bank]
    · split
      · rename_i heq
        exact same (by rw [bank]; exact heq)
      · rename_i hne
        exact differs (by rw [bank]; exact hne)
    · rw [announced.rail, judgeRise_rail, base.rail]
    · rw [announced.rail, judgeRise_rise_eq, base.rail]
      have bank' : v.bank.lastAnnounced = demand.toNat * 50 := by rw [← hv]; rfl
      have up : v.link.lineUp = s.link.lineUp := by rw [← hv, ← hl]; rfl
      cases s.rail.rise with
      | none => rfl
      | some r =>
        rw [Option.map_some, bank', up, base.start]
        dsimp only
        split <;> rfl
  | _ => exact ⟨changes_withLink _ _, rfl⟩

end Sys2Proof.Machine
end

section
/-!
The collision of an attempt (R27, R28, R30, R37), and the events that make the allowance be computed afresh: the tile
JOINED (R189), a DRAW heard (R121), an entry expired (R123), and the line state (R33, R34).
-/

namespace Sys2Proof.Machine

section Collision
variable {s t : State} {o : OnLine} {f : QFrame} {q : List QFrame}

/-- R27: an attempt that has collided jams. -/
def OnLine.jam (o : OnLine) (holds : Bool) : Option OnLine :=
  some { o with phase := .jamming, holdsHead := holds, preReset := false }

/-- R30, R37: the head frame's attempt ends in a jam: the frame stays as a fresh one, or leaves. -/
theorem headJams_eq {l : Link} (hq : l.queue = f :: q) :
    (if headRenew l.queue then { l.renewHead with onLine := o.jam true } else { l.popHead with onLine := o.jam false }) =
      if QFrame.renewMark f then
        { l with attempt := 1, window := 8, queue := QFrame.unmarked f :: q, onLine := o.jam true }
      else { l with attempt := 1, window := 8, queue := q, onLine := o.jam false } := by
  rw [headRenew, hq]
  cases hm : f.renewMark <;> simp [hm, Link.renewHead, Link.popHead, Link.freshBackoff, mapHead, hq]

theorem collideLink_preReset {l : Link} (hq : l.queue = f :: q) (hp : o.preReset = true) : collideLink o l =
    if QFrame.renewMark f then
      { l with attempt := 1, window := 8, queue := QFrame.unmarked f :: q, onLine := o.jam true }
    else { l with attempt := 1, window := 8, queue := q, onLine := o.jam false } := by
  rw [collideLink, if_pos hp]
  exact headJams_eq hq

theorem collideLink_retry {l : Link} (hq : l.queue = f :: q) (hp : ¬ o.preReset = true) (ha : l.attempt < 10) :
    collideLink o l = { l with
      attempt := l.attempt + 1, window := doubleWindow l.window, queue := QFrame.unmarked f :: q, onLine := o.jam true } := by
  rw [collideLink, if_neg hp, if_pos ha, hq]
  rfl

theorem collideLink_ended {l : Link} (hq : l.queue = f :: q) (hp : ¬ o.preReset = true) (ha : ¬ l.attempt < 10) :
    collideLink o l =
      let ended := { l with counters := l.counters.inc .abandoned, attempt := 1, window := 8 }
      if QFrame.renewMark f then { ended with queue := QFrame.unmarked f :: q, onLine := o.jam true }
      else { ended with queue := q, onLine := o.jam false } := by
  rw [collideLink, if_neg hp, if_neg ha]
  exact headJams_eq (l := { l with counters := l.counters.inc .abandoned }) hq

theorem carriedDemand_isSome (b : Body) : (carriedDemand b).isSome = true ↔ Body.kindCode b = 5 := by
  cases b <;> simp [carriedDemand, Body.kindCode]

/-- R28: a collision that does not abandon its frame stays in the link controller. -/
theorem collide_of_not_abandoned (h : abandons o s.link = false) : collide o s =
    (count .collisions s).withLink { collideLink o (count .collisions s).link with quiet := false } := by
  unfold collide
  dsimp only
  rw [h, Bool.false_and, if_neg (by decide)]

/-- R37: a DRAW queued while a DRAW jams at the head takes its place, which changes nothing. -/
theorem enqueueAnnounce_jammed {o : OnLine} {b : Bool} (ho : s.link.onLine = some o) (hp : o.phase = .jamming)
    (holds : o.holdsHead = true) (hr : o.preReset = false) (hq : s.link.queue = .announce .draw b :: q) :
    (enqueueAnnounce .draw s).link = s.link := by
  rw [enqueueAnnounce, if_pos (by rw [hq]; rfl)]
  obtain ⟨⟨frame, _⟩, head, _⟩ := renewQueued_spec (s := s) (k := .draw)
  obtain ⟨queue, onLine⟩ := (head o _ q ho holds hq rfl).2 hp
  rw [frame, queue, onLine]
  have same : ({ o with preReset := false } : OnLine) = o := by rw [← hr]
  rw [same, ← ho]

/-- R28, R114, R134: the state after a tenth collision, the notice of an abandoned DRAW still to be given. -/
theorem collide_rise (h : abandons o s.link = true) {v : State}
    (hv : v = (count .collisions s).withLink { collideLink o (count .collisions s).link with quiet := false }) :
    collide o s = if Body.kindCode o.body = 5 then announceDemand (judgeRise v) else v := by
  unfold collide
  dsimp only
  rw [h, Bool.true_and, ← hv]
  by_cases hb : Body.kindCode o.body = 5
  · rw [if_pos hb, if_pos ((carriedDemand_isSome _).mpr hb)]
    rfl
  · rw [if_neg hb, if_neg (mt (carriedDemand_isSome _).mp hb)]

/-- A change of the count of draws that does not change it. -/
theorem Changes.of_same_draws {bs : List Block} (h : Changes (.draws :: bs) s t) (hd : t.draws = s.draws) : Changes bs s t := by
  intro b hb
  by_cases he : b = .draws
  · rw [he]
    exact hd
  · exact h b (by simp [he, hb])

/-- Queueing an announcement leaves what the tile drives alone. -/
theorem driven_enqueueAnnounce (k : Announce) :
    lken (enqueueAnnounce k s) = lken s ∧ lineBits (enqueueAnnounce k s) = lineBits s := by
  have contended (u : State) : (tryContend u).link.onLine = u.link.onLine := by
    unfold tryContend
    split <;> rfl
  have joined (f : QFrame) (u : State) : (joinTail f u).link.onLine = u.link.onLine := by
    rw [joinTail_eq, contended]
    rfl
  unfold lken lineBits enqueueAnnounce
  split
  · unfold renewQueued
    dsimp only
    split
    · exact ⟨rfl, rfl⟩
    · split
      · rw [State.withLink_link]
        cases s.link.onLine <;> exact ⟨rfl, rfl⟩
      · exact ⟨rfl, rfl⟩
  · split
    · rw [joined]
      exact ⟨rfl, rfl⟩
    · rw [joined, makeRoom_link]
      exact ⟨rfl, rfl⟩

theorem driven_announceDemand : lken (announceDemand s) = lken s ∧ lineBits (announceDemand s) = lineBits s := by
  unfold announceDemand
  split
  · exact ⟨rfl, rfl⟩
  · exact driven_enqueueAnnounce .draw

/-- The link controller jams. -/
theorem driven_jam {holds : Bool} (h : s.link.onLine = o.jam holds) :
    lken s = true ∧ lineBits s = List.replicate 32 false := by
  rw [lken, lineBits, h]
  exact ⟨rfl, rfl⟩

/-- R28, R30: the link controller of an attempt that has ended at its tenth collision. -/
def endedLink (o : OnLine) (f : QFrame) (q : List QFrame) (l : Link) : Link :=
  let ended := { l with
    quiet := false, attempt := 1, window := 8, counters := (l.counters.inc .collisions).inc .abandoned }
  if QFrame.renewMark f then { ended with queue := QFrame.unmarked f :: q, onLine := o.jam true }
  else { ended with queue := q, onLine := o.jam false }

theorem collided_ended (hq : s.link.queue = f :: q) (hp : ¬ o.preReset = true) (ha : ¬ s.link.attempt < 10) :
    (count .collisions s).withLink { collideLink o (count .collisions s).link with quiet := false } =
      s.withLink (endedLink o f q s.link) := by
  rw [collideLink_ended (l := (count .collisions s).link) hq hp ha, endedLink]
  dsimp only
  split <;> rfl

theorem endedLink_onLine (l : Link) : ∃ holds, (endedLink o f q l).onLine = o.jam holds := by
  unfold endedLink
  dsimp only
  split <;> exact ⟨_, rfl⟩

theorem endedLink_lineUp (l : Link) : (endedLink o f q l).lineUp = l.lineUp := by
  unfold endedLink
  dsimp only
  split <;> rfl

theorem endedLink_quiet (l : Link) : (endedLink o f q l).quiet = false := by
  unfold endedLink
  dsimp only
  split <;> rfl

/-- R114, R30: an abandoned DRAW is queued again while own demand differs from the last announced one; one that is
renewed at the head stands there already. -/
theorem announceDemand_ended (hb : Body.kindCode o.body = 5) (carries : bodyOfFrame f o.body)
    (hstart : t.start = s.start) (hlink : t.link = endedLink o f q s.link) (hdraws : t.draws = s.draws)
    (hbank : t.bank = s.bank) :
    if QFrame.renewMark f then (announceDemand t).link = endedLink o f q s.link
    else if s.bank.demand ≠ s.bank.lastAnnounced then
      (announceDemand t).link = (enqueueAnnounce .draw (s.withLink (endedLink o f q s.link))).link ∧
        Queued .draw (announceDemand t)
    else (announceDemand t).link = endedLink o f q s.link := by
  obtain ⟨same, differs⟩ := announceDemand_link (s := t) (s.withLink (endedLink o f q s.link)) hstart hlink hdraws
  rw [hbank] at same differs
  by_cases hm : f.renewMark = true
  · rw [if_pos hm]
    by_cases hd : s.bank.demand = s.bank.lastAnnounced
    · exact same hd
    · rw [(differs hd).1]
      have renewed : endedLink o f q s.link = { s.link with
          quiet := false, attempt := 1, window := 8, counters := (s.link.counters.inc .collisions).inc .abandoned
          queue := QFrame.unmarked f :: q, onLine := o.jam true } := if_pos hm
      have draw : f.unmarked = .announce .draw false := by
        cases f with
        | reply r => cases hm
        | announce k b =>
          cases k with
          | draw => rfl
          | settled => exact absurd (carries.symm.trans hb) (by decide)
      rw [draw] at renewed
      rw [renewed]
      exact enqueueAnnounce_jammed (s := s.withLink _) rfl rfl rfl rfl rfl
  · rw [if_neg hm]
    by_cases hd : s.bank.demand = s.bank.lastAnnounced
    · rw [if_neg (not_not.mpr hd)]
      exact same hd
    · rw [if_pos hd]
      exact differs hd

/-- R134: what the judgement makes of the rise, the bank and the line as they were. -/
theorem judgeRise_match (hstart : t.start = s.start) (hbank : t.bank = s.bank) (hrise : t.rail.rise = s.rail.rise)
    (hline : t.link.lineUp = s.link.lineUp) :
    match s.rail.rise with
    | none => (judgeRise t).rail.rise = none
    | some r =>
      if r.phase = .held ∧ s.start.life = .joined ∧ (s.link.lineUp = false ∨ r.awaited ≤ s.bank.lastAnnounced) then
        (judgeRise t).rail.rise = some { r with phase := .settling 0 }
      else (judgeRise t).rail.rise = some r := by
  rw [judgeRise_rise_eq, hrise, hstart, hbank, hline]
  cases s.rail.rise with
  | none => rfl
  | some r =>
    dsimp only [Option.map_some]
    split <;> rfl

end Collision

/-- Settles O36: the three cases of R28 and R37 by `collideLink`'s equations; the notice of an abandoned frame is that
of a DRAW, which a renewed DRAW at the head makes void. -/
theorem collisionRetriesOrAbandons : Obligations.CollisionRetriesOrAbandons := by
  unfold Obligations.CollisionRetriesOrAbandons
  intro s running attempt
  refine ⟨fun jamming => ?_, fun o f q ho hp hq => ?_⟩
  · refine (whenRunning_running running).trans ?_
    rw [whileSending]
    cases ho : s.link.onLine with
    | none => rfl
    | some o => simp [jamming o ho]
  have runs : exec .collision s = .next (collide o s) := by
    refine (whenRunning_running running).trans ?_
    rw [whileSending, ho]
    exact congrArg _ (if_pos hp)
  by_cases hpre : o.preReset = true
  · rw [collide_of_not_abandoned (by simp [abandons, hpre]),
      collideLink_preReset (l := (count .collisions s).link) hq hpre] at runs
    by_cases hm : f.renewMark = true
    · rw [if_pos hm] at runs
      refine ⟨_, runs, rfl, rfl, rfl, ?_⟩
      rw [if_pos hpre, if_pos hm]
      exact ⟨(changes_count _ _).trans (changes_withLink _ _), rfl⟩
    · rw [if_neg hm] at runs
      refine ⟨_, runs, rfl, rfl, rfl, ?_⟩
      rw [if_pos hpre, if_neg hm]
      exact ⟨(changes_count _ _).trans (changes_withLink _ _), rfl⟩
  by_cases ha : s.link.attempt < 10
  · rw [collide_of_not_abandoned (by simp [abandons]; omega),
      collideLink_retry (l := (count .collisions s).link) hq hpre ha] at runs
    refine ⟨_, runs, rfl, rfl, rfl, ?_⟩
    rw [if_neg hpre, if_pos ha]
    exact ⟨(changes_count _ _).trans (changes_withLink _ _), rfl⟩
  have ends := collide_rise (o := o) (s := s) (by simp [abandons, hpre]; omega) rfl
  rw [collided_ended hq hpre ha] at ends
  obtain ⟨holds, jams⟩ := endedLink_onLine (o := o) (f := f) (q := q) s.link
  refine ⟨_, runs, ?_⟩
  rw [ends, if_neg hpre, if_neg ha]
  have base : Changes [.link, .rail] s (s.withLink (endedLink o f q s.link)) := (changes_withLink _ _).mono (by decide)
  by_cases hb : Body.kindCode o.body = 5
  · rw [if_pos hb]
    have judged := changes_judgeRise (s.withLink (endedLink o f q s.link))
    have announced := changes_announceDemand (judgeRise (s.withLink (endedLink o f q s.link)))
    have rise := judgeRise_match (s := s) (t := s.withLink (endedLink o f q s.link)) rfl rfl rfl
      (endedLink_lineUp s.link)
    have railIs := judgeRise_rail (s.withLink (endedLink o f q s.link))
    generalize judgeRise (s.withLink (endedLink o f q s.link)) = v at judged announced rise railIs
    have link : v.link = endedLink o f q s.link := judged.link
    have sameDraws : (announceDemand v).draws = s.draws := by
      rw [announceDemand_draws (by rw [link]; exact endedLink_quiet s.link), judged.draws]
      rfl
    obtain ⟨_, _, _, carries⟩ := attempt o ho
    have queued := announceDemand_ended (s := s) (q := q) hb (carries f q hq ((attempt o ho).1 hp)) judged.start link judged.draws judged.bank
    refine ⟨?_, ?_, sameDraws, ?_, ?_, ?_, ?_⟩
    · rw [driven_announceDemand.1]
      exact (driven_jam (link ▸ jams)).1
    · rw [driven_announceDemand.2]
      exact (driven_jam (link ▸ jams)).2
    · exact Changes.of_same_draws ((base.comp judged (ds := [.draws, .link, .rail])).comp announced) sameDraws
    · by_cases hm : f.renewMark = true
      · rw [if_pos hm] at queued ⊢
        rw [queued, endedLink, if_pos hm]
        rfl
      · rw [if_neg hm] at queued ⊢
        rw [endedLink, if_neg hm] at queued
        simp only [hb, true_and]
        exact queued
    · rw [announced.rail]
      exact railIs
    · rw [announced.rail]
      simp only [hb, true_and]
      exact rise
  · rw [if_neg hb]
    refine ⟨(driven_jam jams).1, (driven_jam jams).2, rfl, base, ?_, rfl, ?_⟩
    · rw [State.withLink_link, endedLink]
      simp only [hb, false_and, if_false]
      split <;> rfl
    · simp only [hb, false_and, if_false]
      show match s.rail.rise with
        | none => s.rail.rise = none
        | some r => s.rail.rise = some r
      cases s.rail.rise <;> rfl

end Sys2Proof.Machine
end

section
/-!
The events that make the allowance be computed afresh and the pattern be worked out: the tile JOINED (R189), a DRAW
heard (R121), an entry expired (R123), the line up and down (R33, R34).
-/

namespace Sys2Proof.Machine

/-! ### What the two computations read -/

section Reads
variable {s t s' t' : State} {c : Settings}

theorem AllowanceApplied.congr (h : AllowanceApplied s t) (hs : s'.rail = s.rail) (hrail : t'.rail = t.rail)
    (hbank : t'.bank = t.bank) (hlife : t'.start.life = t.start.life) (hline : t'.link.lineUp = t.link.lineUp) :
    AllowanceApplied s' t' := by
  unfold AllowanceApplied at *
  rwa [hs, hrail, hbank, hlife, hline]

theorem AllowanceRecomputed.congr (h : AllowanceRecomputed c s t) (hs : s'.rail = s.rail) (hrail : t'.rail = t.rail)
    (hbank : t'.bank = t.bank) (hlife : t'.start.life = t.start.life) (hline : t'.link.lineUp = t.link.lineUp) :
    AllowanceRecomputed c s' t' := by
  obtain ⟨view, timer, computed, applied⟩ := h
  exact ⟨by rw [hrail, hs, view], by rw [hrail, hs, timer], by rw [hrail, hbank, hline, computed],
    applied.congr hs hrail hbank hlife hline⟩

/-- R133, R134: a rise of a JOINED tile is held only on a line that is up, for a demand not yet announced. -/
theorem AllowanceApplied.held_joined (h : AllowanceApplied s t) (joined : t.start.life = .joined) :
    ∀ r, t.rail.rise = some r → r.phase = .held → t.link.lineUp = true ∧ t.bank.lastAnnounced < r.awaited := by
  obtain ⟨_, rise⟩ := h
  intro r hr held
  split at rise
  · rw [hr] at rise
    cases rise
  · dsimp only at rise
    have fresh (hf : t.rail.rise = some
        { target := t.rail.computed, awaited := t.bank.demand
          phase := if t.start.life = .listening ∨ (t.bank.lastAnnounced < t.bank.demand ∧ t.link.lineUp = true) then
            .held else .settling 0 }) : t.link.lineUp = true ∧ t.bank.lastAnnounced < r.awaited := by
      obtain rfl := Option.some.inj (hr.symm.trans hf)
      dsimp only at held
      split at held
      · rename_i hc
        rcases hc with listening | ⟨below, up⟩
        · rw [joined] at listening
          cases listening
        · exact ⟨up, below⟩
      · cases held
    split at rise
    · exact fresh rise
    · split at rise
      · exact fresh rise
      · split at rise
        · obtain rfl := Option.some.inj (hr.symm.trans rise)
          cases held
        · rename_i kept
          obtain rfl := Option.some.inj (hr.symm.trans rise)
          simp only [held, joined, true_and, not_or, Bool.not_eq_false, Nat.not_le] at kept
          exact kept

/-- R134: such a rise is not released by a judgement. -/
theorem judgeRise_of_unannounced (h : ∀ r, s.rail.rise = some r → r.phase = .held →
    s.link.lineUp = true ∧ s.bank.lastAnnounced < r.awaited) : judgeRise s = s := by
  unfold judgeRise
  cases hr : s.rail.rise with
  | none => rfl
  | some r =>
    refine if_neg fun ⟨held, released⟩ => ?_
    obtain ⟨up, below⟩ := h r hr held
    simp [holdReleased, up] at released
    omega

/-- The pattern's work reads nothing of the bank, and of the rail share the view alone. -/
theorem PatternWorkedOut.congr (h : PatternWorkedOut s t) (hs : Changes [.bank, .rail] s s')
    (hvs : s'.rail.view = s.rail.view) (ht : Changes [.bank, .rail] t t') (hvt : t'.rail.view = t.rail.view) :
    PatternWorkedOut s' t' := by
  have inputs {a b : State} (hc : Changes [.bank, .rail] a b) (hv : b.rail.view = a.rail.view) :
      patternOf b = patternOf a := by
    have page := hc.page
    exact patternOf_congr hc.start (by rw [page]) (by rw [page]) (by rw [page]) hv (by rw [hc.touch]) (by rw [hc.link])
  have diffs (p : Pattern) (r : Nat) : diff (t'.withPattern p) r = diff (t.withPattern p) r :=
    diff_congr (s := t.withPattern p) (t := t'.withPattern p) ht.start
      (congrArg Page.target (show t'.page = t.page from ht.page)) ht.shown rfl
      (congrArg Plan.faults (show t'.plan = t.plan from ht.plan)) r
  have diffNow (r : Nat) : diff t' r = diff t r :=
    diff_congr ht.start (by rw [ht.page]) ht.shown ht.pattern (by rw [ht.plan]) r
  have base (r : Nat) (m : Moves) : baseLevel t' r m = baseLevel t r m := baseLevel_congr ht.start (by rw [ht.plan]) r m
  have rows : statusRows s' = statusRows s := statusRows_congr hs.start
  have rowsT : statusRows t' = statusRows t := statusRows_congr ht.start
  obtain ⟨right, faults, rest⟩ := h
  refine ⟨by rw [ht.pattern, inputs ht hvt, right], by rw [ht.plan, hs.plan, faults], ?_⟩
  rw [inputs hs hvs, hs.pattern, rows]
  split
  · rename_i hc
    rw [if_pos hc] at rest
    rw [ht.page, ht.plan, ht.pipe, ht.touch, ht.link, ht.draws, hs.page, hs.plan, hs.pipe, hs.touch, hs.link, hs.draws]
    exact rest
  · rename_i hc
    rw [if_neg hc] at rest
    obtain ⟨handed, settle⟩ := rest
    refine ⟨handed.congr hs.start hs.pipe hs.touch ht.start ht.pipe ht.touch ht.plan, ?_⟩
    rcases settle with ⟨⟨page, link, draws, waits⟩, jobs⟩ | ⟨⟨n, hn, working, page, link, draws⟩, idle, empty, jobs⟩
    · refine .inl ⟨⟨by rw [ht.page, hs.page, page], by rw [ht.link, hs.link, link], by rw [ht.draws, hs.draws, draws], ?_⟩,
        fun r => ?_⟩
      · rw [hs.page, ht.pipe, planEmpty, ht.plan]
        exact waits
      · rw [jobAt_congr ht.plan, jobs, jobAt_congr hs.plan,
          refreshedJob_congr (jobAt_congr hs.plan r) (diffNow r) (base r)]
    · refine .inr ⟨⟨n, ?_, ?_, ?_, ?_, ?_⟩, by rw [hs.pipe, idle], fun r => ?_, fun r => ?_⟩
      · rw [hn]
        exact (stuckOffCount_congr (s := t.withPattern (patternOf s)) (t := t'.withPattern (patternOf s)) ht.start
          (congrArg Page.target (show t'.page = t.page from ht.page)) ht.shown rfl
          (congrArg Plan.faults (show t'.plan = t.plan from ht.plan))).symm
      · rw [hs.page, working]
      · rw [ht.page, hs.page, page]
      · rw [ht.link, link]
        exact (enqueueAnnounce_link_congr .settled hs.start hs.link hs.draws).symm
      · rw [ht.draws, draws]
        exact (enqueueAnnounce_draws_congr .settled hs.start hs.link hs.draws).symm
      · have emptyRow := empty r
        rw [rowsT, diffs, jobAt_congr ht.plan]
        exact emptyRow
      · rw [jobAt_congr ht.plan, jobs]
        simp only [freshJob, diffNow, base]

end Reads

/-! ### The view -/

section View
variable {s : State} {c : Settings} {view : List PeerEntry}

/-- R123, R121: the view changes, the pattern is worked out, and the allowance is recomputed with it. -/
def viewChanged (view : List PeerEntry) (s : State) : State :=
  recomputeAllowance (recomputePattern (s.withRail { s.rail with view := view }))

theorem viewChanged_spec (hc : s.start.settings = some c) (ho : onTheLink s = true) (start : StartOk s)
    (slots : SlotsOk s) :
    Changes (.rail :: workBlocks) s (viewChanged view s) ∧ (viewChanged view s).rail.view = view ∧
      AllowanceRecomputed c (s.withRail { s.rail with view := view }) (viewChanged view s) ∧
      PatternWorkedOut (s.withRail { s.rail with view := view }) (viewChanged view s) := by
  have worked : PatternWorkedOut (s.withRail { s.rail with view := view })
      (recomputePattern (s.withRail { s.rail with view := view })) :=
    patternWorkedOut_recomputePattern (statusRows_lt start) slots.1
  have changed := changes_recomputePattern (s.withRail { s.rail with view := view })
  have rail := recomputePattern_withRail_rail (s := s) { s.rail with view := view }
  unfold viewChanged
  generalize recomputePattern (s.withRail { s.rail with view := view }) = v at worked changed rail
  have recomputed : AllowanceRecomputed c v (recomputeAllowance v) :=
    recomputeAllowance_spec v (by rw [changed.start]; exact hc) (by rw [onTheLink_congr changed.start]; exact ho)
  have last := changes_recomputeAllowance v
  refine ⟨((changes_withRail s _).comp changed (ds := .rail :: workBlocks)).comp last, ?_, ?_, ?_⟩
  · rw [recomputed.1, rail]
  · exact recomputed.congr rail.symm rfl rfl rfl rfl
  · exact worked.congr (.refl _ _) rfl (last.mono (by decide)) aside_recomputeAllowance.view

end View

/-- R121: the entry that a DRAW of a station gives. -/
def heardEntry (sender demand : Byte) (serial : Half) (outcome : Byte) : PeerEntry :=
  { station := sender, demand := demand.toNat * 50, serial := serial, outcome := outcomeOfCode outcome,
    remaining := entryLife }

theorem takeDraw_eq (sender demand : Byte) (serial : Half) (outcome : Byte) (s : State) :
    takeDraw sender demand serial outcome s =
      viewChanged (renewEntry s.rail.view (heardEntry sender demand serial outcome)) s := rfl

/-- Settles O24: the DRAW's entry is the one `renewEntry` puts into the view. -/
theorem drawFrameRenewsTheView : Obligations.DrawFrameRenewsTheView := by
  unfold Obligations.DrawFrameRenewsTheView
  intro sender demand fl lc fc cc ps serial outcome s c hears hdemand hc start slots
  have runs : exec (.draw sender demand fl lc fc cc ps serial outcome) s = .next (takeDraw sender demand serial outcome (lineBusy s)) :=
    exec_delivered (b := .draw demand fl lc fc cc ps serial outcome) rfl hears (by simp [bodyOk, hdemand])
  rw [takeDraw_eq] at runs
  have spec := viewChanged_spec (s := lineBusy s) (view := renewEntry s.rail.view (heardEntry sender demand serial outcome))
    hc hears.2.1 start slots
  have sameDraws : (viewChanged (renewEntry s.rail.view (heardEntry sender demand serial outcome)) (lineBusy s)).draws =
      s.draws := by
    unfold viewChanged
    rw [(changes_recomputeAllowance _).draws]
    exact (workKept_recomputePattern _).draws rfl
  rw [show (lineBusy s).rail.view = s.rail.view from rfl] at runs
  generalize viewChanged (renewEntry s.rail.view (heardEntry sender demand serial outcome)) (lineBusy s) = t at *
  obtain ⟨changed, viewIs, recomputed, worked⟩ := spec
  refine ⟨t, runs, ((changes_lineBusy s).comp changed (ds := .rail :: workBlocks)).mono (by decide), sameDraws, ?_, ?_, ?_⟩
  · exact viewIs
  · rw [viewIs]
    exact recomputed.congr rfl rfl rfl rfl rfl
  · rw [viewIs]
    exact worked

/-- Settles O46. -/
theorem entryExpiryForgetsTheStation : Obligations.EntryExpiryForgetsTheStation := by
  unfold Obligations.EntryExpiryForgetsTheStation
  intro st s c running hc ho
  have runs : exec (.entryExpiry st) s = .next (expireEntry st s) := whenRunning_running running
  have due : entryDue s.rail.view st = true ↔ ∃ e ∈ s.rail.view, e.station = st ∧ e.remaining = 0 := by simp [entryDue]
  refine ⟨fun renewed => ?_, fun expired start slots => ?_⟩
  · rw [runs, expireEntry, if_neg]
    rw [due]
    rintro ⟨e, he, hst, hr⟩
    exact renewed e he hst hr
  · have expires : expireEntry st s = viewChanged (dropStation s.rail.view st) s := if_pos (due.mpr expired)
    obtain ⟨changed, viewIs, recomputed, worked⟩ := viewChanged_spec (s := s) (view := dropStation s.rail.view st) hc ho
      start slots
    rw [expires] at runs
    refine ⟨_, runs, changed.mono (by decide), viewIs, ?_, ?_, ?_⟩
    · rw [viewIs]
      refine Bool.eq_false_iff.mpr fun hin => ?_
      obtain ⟨e, he, hst⟩ := inView_iff.mp hin
      exact dropStation_ne he hst
    · rw [viewIs]
      exact recomputed
    · rw [viewIs]
      exact worked

/-! ### JOINED -/

/-- Settles O10: the judgement after the recomputation finds no rise to release. -/
theorem joinListenExpiryJoinsTheTile : Obligations.JoinListenExpiryJoinsTheTile := by
  unfold Obligations.JoinListenExpiryJoinsTheTile
  intro s c running hc
  refine ⟨fun short => ?_, fun due => ?_⟩
  · refine (whenRunning_running running).trans ?_
    rw [if_neg (by rw [show joinPeriod = 1500 from rfl, short]; decide)]
  · have runs : exec .joinListenTimerExpiry s = .next (enterJoined s) :=
      (whenRunning_running running).trans (congrArg _ (if_pos due))
    generalize hj : s.withStart { s.start with life := .joined, joinTimer := none } = j
    have contended : Contended j.link j (tryContend j) := contended_tryContend rfl rfl
    have first := changes_tryContend j
    have recomputed : AllowanceRecomputed c (tryContend j) (recomputeAllowance (tryContend j)) := by
      refine recomputeAllowance_spec _ ?_ ?_
      · rw [first.start, ← hj]
        exact hc
      · rw [onTheLink_congr first.start, ← hj]
        rfl
    have second := changes_recomputeAllowance (tryContend j)
    have life : (recomputeAllowance (tryContend j)).start.life = .joined := by rw [second.start, first.start, ← hj]; rfl
    have held := recomputed.2.2.2.held_joined life
    have joined : enterJoined s = startDrift (recomputeAllowance (tryContend j)) := by
      unfold enterJoined
      dsimp only
      rw [hj, judgeRise_of_unannounced held]
    have last := changes_startDrift (recomputeAllowance (tryContend j))
    rw [joined] at runs
    refine ⟨_, runs, ?_, ?_, ?_, ?_, ?_, ?_⟩
    · exact (((hj ▸ changes_withStart s _ : Changes [.start] s j).comp first
        (ds := [.start, .link, .draws, .rail, .touch])).comp second (ds := [.start, .link, .draws, .rail, .touch])).comp last
    · rw [last.start, second.start, first.start, ← hj]
      rfl
    · have start : (s.withStart (startDrift (recomputeAllowance (tryContend j))).start) = j := by
        rw [last.start, second.start, first.start, ← hj]
        rfl
      rw [start]
      unfold Contended at contended ⊢
      rw [last.link, second.link, last.draws, second.draws]
      rwa [← hj] at contended ⊢
    · refine recomputed.congr ?_ last.rail last.bank (by rw [last.start]) (by rw [last.link])
      rw [first.rail, ← hj]
      rfl
    · intro r hr hp
      rw [last.rail] at hr
      obtain ⟨up, below⟩ := held r hr hp
      rw [second.link, aside_tryContend.lineUp, ← hj] at up
      rw [second.bank, first.bank, ← hj] at below
      exact ⟨up, below⟩
    · have pipe : (recomputeAllowance (tryContend j)).pipe = s.pipe := by rw [second.pipe, first.pipe, ← hj]; rfl
      have touch : (recomputeAllowance (tryContend j)).touch = s.touch := by rw [second.touch, first.touch, ← hj]; rfl
      rw [startDrift, life, pipe, touch]
      by_cases hd : s.pipe.engine = .idle ∧ s.touch.driftTimer = none
      · rw [if_pos ⟨rfl, hd⟩, if_pos hd]
        rfl
      · rw [if_neg fun h => hd h.2, if_neg hd, touch]

end Sys2Proof.Machine
end

section
/-!
The line up and down (R33, R34): the attempt on the line ended, the allowance recomputed under the new line state, the
pattern worked out.
-/

namespace Sys2Proof.Machine

section Line
variable {s t u : State} {c : Settings}

/-- R33: what a change of the line state brings: the allowance recomputed, then the pattern worked out. -/
def lineChanged (s : State) : State := recomputePattern (recomputeAllowance s)

theorem changes_lineChanged (s : State) : Changes (.rail :: workBlocks) s (lineChanged s) :=
  (changes_recomputeAllowance s).comp (changes_recomputePattern _)

theorem patternWorkedOut_lineChanged (start : StartOk s) (slots : s.pipe.engine = .idle → slotsEmpty s = true) : PatternWorkedOut s (lineChanged s) := by
  have c := changes_recomputeAllowance s
  have worked : PatternWorkedOut (recomputeAllowance s) (lineChanged s) := by
    refine patternWorkedOut_recomputePattern ?_ ?_
    · rw [statusRows_congr c.start]
      exact statusRows_lt start
    · rw [c.pipe, slotsEmpty, c.pipe]
      exact slots
  have back : Changes [.bank, .rail] (recomputeAllowance s) s := fun b hb => by
    have same := (c.mono (cs := [.bank, .rail]) (by decide)) b hb
    cases b <;> exact same.symm
  exact worked.congr back aside_recomputeAllowance.view.symm (.refl _ _) rfl

theorem lineChanged_rail_off (h : onTheLink s = false) : (lineChanged s).rail = s.rail := by
  rw [lineChanged, (changes_recomputePattern _).rail, recomputeAllowance_off s h]

theorem kept_lineChanged : Link.Kept s.link (lineChanged s).link := by
  have kept := (workKept_recomputePattern (recomputeAllowance s)).kept
  rwa [(changes_recomputeAllowance s).link] at kept

theorem allowanceRecomputed_lineChanged (hc : s.start.settings = some c) (ho : onTheLink s = true) :
    AllowanceRecomputed c s (lineChanged s) := by
  have work := changes_recomputePattern (recomputeAllowance s)
  exact (recomputeAllowance_spec s hc ho).congr rfl work.rail work.bank (congrArg StartUp.life work.start)
    (workKept_recomputePattern (recomputeAllowance s)).kept.1

theorem lineChanged_link (h : s.page.state ≠ .working) : (lineChanged s).link = s.link := by
  have c := changes_recomputeAllowance s
  rw [lineChanged, ((workKept_recomputePattern (recomputeAllowance s)).link (by rwa [c.page])).1, c.link]

/-- R33, R161: in CONFIG nothing follows from the line state. -/
theorem lineChanged_of_config (off : onTheLink s = false) (turned : s.page.turned = 0) (pattern : s.pattern = .blank) :
    lineChanged s = s := by
  rw [lineChanged, recomputeAllowance_off s off, recomputePattern]
  exact if_pos (by rw [patternOf, if_pos turned, pattern])

/-- Settles and refreshes leave what the tile drives alone. -/
theorem lken_lineChanged : lken (lineChanged s) = lken s := by
  have kept : KeptByWork (fun t => lken t = lken s) := by
    refine keptByWork_of_settled (fun c _ h => ?_) fun _ h => ?_
    · rw [lken, c.link]
      exact h
    · rw [lken, settledAndAnnounced_link]
      exact (driven_enqueueAnnounce .settled).1.trans h
  refine kept.recomputePattern ?_
  rw [lken, lken, (changes_recomputeAllowance s).link]

theorem tryContend_link_wait : (tryContend s).link = { s.link with wait := (tryContend s).link.wait } := by
  unfold tryContend
  split <;> rfl

theorem off_of_no_settings (start : StartOk s) (h : s.start.settings = none) : onTheLink s = false := by
  simp [onTheLink, start.1.mpr h]

theorem pattern_blank_of_off (h : PatternOk s) (off : onTheLink s = false) : s.pattern = .blank := by
  rw [h.1, patternOf, if_pos (h.2 off)]

end Line

/-- Settles O39. -/
theorem linkUpLiftsTheCap : Obligations.LinkUpLiftsTheCap := by
  unfold Obligations.LinkUpLiftsTheCap
  intro s running start slots
  have runs : exec .linkUp s = .next (lineComesUp s) := whenRunning_running running
  refine ⟨fun up => by rw [runs, lineComesUp, if_pos up], fun down => ?_⟩
  have comes : lineComesUp s = tryContend (lineChanged (s.withLink { s.link with lineUp := true, quiet := true })) :=
    if_neg (by simp [down])
  rw [comes] at runs
  generalize hw : s.withLink { s.link with lineUp := true, quiet := true } = w at runs
  have first : Changes [.link] s w := hw ▸ changes_withLink s _
  have link : w.link = { s.link with lineUp := true, quiet := true } := by rw [← hw]; rfl
  have changed := changes_lineChanged w
  have last := changes_tryContend (lineChanged w)
  have kept := kept_lineChanged (s := w)
  have worked : PatternWorkedOut w (lineChanged w) := by
    refine patternWorkedOut_lineChanged (start.congr first.start) ?_
    rw [← hw]
    exact slots.1
  refine ⟨_, lineChanged w, runs, ?_, last, worked, contended_tryContend rfl rfl, ?_, ?_, ?_, fun off => ?_,
    fun c hc ho => ?_, fun idle => ?_, fun none pattern => ?_⟩
  · exact ((first.comp changed (ds := .rail :: workBlocks)).comp last (ds := .rail :: workBlocks)).mono (by decide)
  · rw [(kept_tryContend _).1, kept.1, link]
  · rw [(kept_tryContend _).2.1, kept.2.1, link]
  · have same : lken w = lken s := by rw [lken, link]; rfl
    rw [lken, tryContend_link_wait, ← same, ← lken_lineChanged]
    rfl
  · rw [last.rail, lineChanged_rail_off (by rw [onTheLink_congr first.start, off]), first.rail]
  · exact (allowanceRecomputed_lineChanged (by rw [first.start, hc]) (by rw [onTheLink_congr first.start, ho])).congr
      first.rail.symm last.rail last.bank (by rw [last.start]) (kept_tryContend _).1
  · have same := tryContend_link_wait (s := lineChanged w)
    rw [lineChanged_link (by rwa [first.page]), link] at same
    exact same
  · have off := off_of_no_settings start none
    have off' : onTheLink w = false := by rw [onTheLink_congr first.start, off]
    rw [lineChanged_of_config off' (by rw [first.page]; exact pattern.2 off)
      (by rw [first.pattern]; exact pattern_blank_of_off pattern off)]
    have still : tryContend w = w := by
      refine tryContend_of_not_ready ?_
      have config : s.start.life = .config := start.1.mpr none
      simp [headReady, first.start, config]
    rw [still]
    exact ⟨first, link⟩

/-! ### The line down -/

section Down
variable {s t : State}

/-- R33, R34: the line controller once the line is down, the attempt on it ended. -/
def released (u : State) : State :=
  u.withLink { u.link with onLine := none, lineUp := false, quiet := false, wait := none }

/-- R34: what ends an attempt: its collision, or its jam's end. -/
def ended (s : State) : State :=
  match s.link.onLine with
  | none => s
  | some o => match o.phase with
    | .sending => collide o s
    | .jamming => endJam o s

theorem lineGoesDown_eq (h : s.link.lineUp = true) : lineGoesDown s = lineChanged (released (ended s)) := by
  have cut : (cutOff s).withLink { (cutOff s).link with lineUp := false, quiet := false, wait := none } =
      released (ended s) := by
    unfold cutOff ended released
    cases ho : s.link.onLine with
    | none =>
      dsimp only
      have same : s.link = { s.link with onLine := none } := by rw [← ho]
      rw [same]
    | some o =>
      dsimp only
      cases hp : o.phase <;> rfl
  unfold lineGoesDown
  rw [if_pos h]
  dsimp only
  rw [cut]
  rfl

theorem changes_ended (s : State) : Changes [.rail, .link, .draws] s (ended s) := by
  unfold ended
  split
  · exact .refl _ _
  · split
    · exact changes_collide _ _
    · exact (changes_endJam _ _).mono (by decide)

/-- What of the link controller neither a queued announcement nor the end of an attempt touches, but for the collisions
counted. -/
structure CountsKept (n : Nat) (s t : State) : Prop where
  collisions : t.link.counters.collisions = n
  clash : t.link.clash = s.link.clash
  draws : t.draws = s.draws

theorem ended_rail : (ended s).rail = { s.rail with rise := (ended s).rail.rise } := by
  unfold ended
  cases s.link.onLine with
  | none => rfl
  | some o =>
    dsimp only
    cases o.phase with
    | jamming => rfl
    | sending =>
      unfold collide
      dsimp only
      split
      · rw [drawAbandoned, (changes_announceDemand _).rail, judgeRise_rail]
        rfl
      · rfl

theorem collisions_joinTail (f : QFrame) : (joinTail f s).link.counters = s.link.counters := by
  rw [joinTail_eq, tryContend_link_wait]
  rfl

theorem collisions_enqueueAnnounce (k : Announce) :
    (enqueueAnnounce k s).link.counters.collisions = s.link.counters.collisions := by
  unfold enqueueAnnounce
  split
  · unfold renewQueued
    dsimp only
    split
    · rfl
    · split <;> rfl
  · split
    · rw [collisions_joinTail]
    · rw [collisions_joinTail, makeRoom_link]
      rfl

theorem countsKept_announce {n : Nat} (k : Announce) {u : State} (quiet : u.link.quiet = false) (h : CountsKept n s u) :
    CountsKept n s (enqueueAnnounce k u) :=
  ⟨(collisions_enqueueAnnounce k).trans h.collisions, (kept_enqueueAnnounce u k).2.2.trans h.clash,
    (draws_enqueueAnnounce u k quiet).trans h.draws⟩

theorem collideLink_counts (o : OnLine) (l : Link) :
    (collideLink o l).counters.collisions = l.counters.collisions ∧ (collideLink o l).clash = l.clash := by
  unfold collideLink
  dsimp only
  split
  · split <;> exact ⟨rfl, rfl⟩
  · split
    · exact ⟨rfl, rfl⟩
    · split <;> exact ⟨rfl, rfl⟩

theorem countsKept_collide (o : OnLine) : CountsKept (bump s.link.counters.collisions) s (collide o s) := by
  have collided : CountsKept (bump s.link.counters.collisions) s ((count .collisions s).withLink
      { collideLink o (count .collisions s).link with quiet := false }) :=
    ⟨(collideLink_counts o _).1, (collideLink_counts o _).2, rfl⟩
  unfold collide
  dsimp only
  split
  · have c := changes_judgeRise ((count .collisions s).withLink
      { collideLink o (count .collisions s).link with quiet := false })
    have judged : CountsKept (bump s.link.counters.collisions) s (judgeRise ((count .collisions s).withLink
        { collideLink o (count .collisions s).link with quiet := false })) :=
      ⟨by rw [c.link]; exact collided.collisions, by rw [c.link]; exact collided.clash,
        by rw [c.draws]; exact collided.draws⟩
    unfold drawAbandoned announceDemand
    split
    · exact judged
    · exact countsKept_announce .draw (by rw [c.link]; rfl) judged
  · exact collided

/-- R34: the collisions counted once the attempt has ended. -/
def collisionsAfter (s : State) : Nat :=
  match s.link.onLine with
  | none => s.link.counters.collisions
  | some o => if o.phase = .sending then bump s.link.counters.collisions else s.link.counters.collisions

theorem countsKept_ended : CountsKept (collisionsAfter s) s (ended s) := by
  unfold collisionsAfter ended
  cases s.link.onLine with
  | none => exact ⟨rfl, rfl, rfl⟩
  | some o =>
    dsimp only
    cases o.phase with
    | sending => exact countsKept_collide o
    | jamming =>
      have popped (b : Bool) : (if b then s.link.popHead else s.link).counters = s.link.counters ∧
          (if b then s.link.popHead else s.link).clash = s.link.clash := by cases b <;> exact ⟨rfl, rfl⟩
      exact ⟨congrArg Counters.collisions (popped _).1, (popped _).2, rfl⟩

theorem countsKept_lineChanged {n : Nat} {w : State} (h : CountsKept n s w) (quiet : w.link.quiet = false) :
    CountsKept n s (lineChanged w) := by
  have kept : KeptByWork (fun t => t.link.quiet = false ∧ CountsKept n s t) := by
    refine keptByWork_of_settled (fun c w ⟨q, k⟩ => ?_) fun {u} _ ⟨q, k⟩ => ?_
    · rw [c.link]
      exact ⟨q, by rw [c.link]; exact k.collisions, by rw [c.link]; exact k.clash, by rw [c.draws]; exact k.draws⟩
    · have announced := countsKept_announce .settled q k
      rw [settledAndAnnounced_link]
      exact ⟨(kept_enqueueAnnounce u _).2.1.trans q, by rw [settledAndAnnounced_link]; exact announced.collisions,
        by rw [settledAndAnnounced_link]; exact announced.clash, settledAndAnnounced_draws.trans announced.draws⟩
  have c := changes_recomputeAllowance w
  exact (kept.recomputePattern (s := recomputeAllowance w) ⟨by rw [c.link]; exact quiet,
    ⟨by rw [c.link]; exact h.collisions, by rw [c.link]; exact h.clash, by rw [c.draws]; exact h.draws⟩⟩).2

/-- R24: an announcement queued on a line that is not quiet starts no wait. -/
theorem wait_enqueueAnnounce (k : Announce) (quiet : s.link.quiet = false) (h : s.link.wait = none) :
    (enqueueAnnounce k s).link.wait = none := by
  have joined (f : QFrame) {u : State} (hq : u.link.quiet = false) (hw : u.link.wait = none) :
      (joinTail f u).link.wait = none := by
    rw [joinTail_eq, tryContend_of_not_quiet (by exact hq)]
    exact hw
  unfold enqueueAnnounce
  split
  · unfold renewQueued
    dsimp only
    split
    · exact h
    · split <;> exact h
  · split
    · exact joined _ quiet h
    · refine joined _ ((kept_makeRoom s).2.1.trans quiet) ?_
      rw [makeRoom_link, h]
      exact ite_self _

theorem wait_lineChanged {w : State} (quiet : w.link.quiet = false) (h : w.link.wait = none) :
    (lineChanged w).link.wait = none := by
  have kept : KeptByWork (fun t => t.link.quiet = false ∧ t.link.wait = none) := by
    refine keptByWork_of_settled (fun c w h => ?_) fun {u} _ ⟨q, hw⟩ => ?_
    · rw [c.link]
      exact h
    · rw [settledAndAnnounced_link]
      exact ⟨(kept_enqueueAnnounce u _).2.1.trans q, wait_enqueueAnnounce _ q hw⟩
  have c := changes_recomputeAllowance w
  exact (kept.recomputePattern (s := recomputeAllowance w) (by rw [c.link]; exact ⟨quiet, h⟩)).2

end Down

/-- Settles O40: `ended` is the state after the collision or the jam's end, `released` the line gone down; the rest is
`lineChanged`. -/
theorem linkDownCapsTheAllowance : Obligations.LinkDownCapsTheAllowance := by
  unfold Obligations.LinkDownCapsTheAllowance
  intro s running start slots
  have runs : exec .linkDown s = .next (lineGoesDown s) := whenRunning_running running
  refine ⟨fun down => by rw [runs, lineGoesDown, if_neg (by simp [down])], fun up => ?_⟩
  rw [lineGoesDown_eq up] at runs
  have ends : match s.link.onLine with
      | none => ended s = s
      | some o => exec (match o.phase with | .sending => .collision | .jamming => .jamEnd) s = .next (ended s) := by
    unfold ended
    cases ho : s.link.onLine with
    | none => rfl
    | some o =>
      dsimp only
      cases hp : o.phase with
      | sending =>
        refine (whenRunning_running running).trans ?_
        rw [whileSending, ho]
        exact congrArg _ (if_pos hp)
      | jamming =>
        refine (whenRunning_running running).trans ?_
        rw [whileJamming, ho]
        exact congrArg _ (if_pos hp)
  have first := changes_ended s
  have counts := countsKept_ended (s := s)
  generalize hw : released (ended s) = w at runs
  have second : Changes [.link] (ended s) w := hw ▸ changes_withLink _ _
  have down : Changes [.rail, .link, .draws] s w := first.comp second
  have rail : w.rail = { s.rail with rise := w.rail.rise } := by
    rw [second.rail]
    exact ended_rail
  have view : w.rail.view = s.rail.view := by rw [rail]
  have applied : w.rail.applied = s.rail.applied := by rw [rail]
  have link : w.link = { (ended s).link with onLine := none, lineUp := false, quiet := false, wait := none } := by
    rw [← hw]
    rfl
  have counts : CountsKept (collisionsAfter s) s w := by
    obtain ⟨collisions, clash, draws⟩ := countsKept_ended (s := s)
    exact ⟨by rw [link]; exact collisions, by rw [link]; exact clash, by rw [second.draws, draws]⟩
  have finalCounts := countsKept_lineChanged counts (by rw [link])
  have changed := changes_lineChanged w
  have worked : PatternWorkedOut w (lineChanged w) := by
    refine patternWorkedOut_lineChanged (start.congr down.start) ?_
    rw [down.pipe, slotsEmpty, down.pipe]
    exact slots.1
  have lineIsDown : (lineChanged w).link.lineUp = false := by rw [kept_lineChanged.1, link]
  have driven : lken (lineChanged w) = false := by
    rw [lken_lineChanged, lken, link]
    rfl
  have recomputed {c : Settings} (hc : s.start.settings = some c) (ho : onTheLink s = true) :
      AllowanceRecomputed c w (lineChanged w) :=
    allowanceRecomputed_lineChanged (by rw [down.start, hc]) (by rw [onTheLink_congr down.start, ho])
  refine ⟨lineChanged w, ended s, runs, ?_, ends, ⟨hw ▸ worked, fun off => ?_, fun c hc ho => hw ▸ recomputed hc ho⟩,
    lineIsDown, ?_, driven, ?_, finalCounts.clash, finalCounts.draws, fun o ho => ?_, fun none => ?_, fun c hc ho => ?_,
    fun none free pattern => ?_⟩
  · exact (down.comp changed (ds := .rail :: workBlocks)).mono (by decide)
  · rw [lineChanged_rail_off (by rw [onTheLink_congr down.start, off]), ← hw]
    rfl
  · exact Option.not_isSome_iff_eq_none.mp (by rw [← lken, driven]; decide)
  · exact wait_lineChanged (by rw [link]) (by rw [link])
  · rw [finalCounts.collisions, collisionsAfter, ho]
  · rw [finalCounts.collisions, collisionsAfter, none]
  · obtain ⟨viewIs, _, computed, applies⟩ := recomputed hc ho
    have demand : (lineChanged w).bank = s.bank := by rw [changed.bank, down.bank]
    rw [demand, viewIs, view, lineIsDown] at computed
    have low : (lineChanged w).rail.computed ≤ floorShare c := by
      rw [computed]
      exact computeAllowance_down_le _ _ _
    have least := applies.1
    rw [applied] at least
    refine ⟨computed, ?_, ?_, fun joined r hr held => ?_⟩
    · rw [least]
      exact (Nat.min_le_right _ _).trans low
    · rw [least]
      exact Nat.min_le_left _ _
    · have upAgain := (applies.held_joined (by rw [changed.start, down.start, joined]) r hr held).1
      rw [lineIsDown] at upAgain
      cases upAgain
  · have off := off_of_no_settings start none
    have still : lineChanged w = w :=
      lineChanged_of_config (by rw [onTheLink_congr down.start, off]) (by rw [down.page]; exact pattern.2 off)
        (by rw [down.pattern]; exact pattern_blank_of_off pattern off)
    have same : ended s = s := by rw [ended, free]
    rw [still]
    refine ⟨same ▸ second, ?_⟩
    rw [link, same, ← free]

end Sys2Proof.Machine
end

section
/-!
Frames that the tile does not act on, and queries that it only answers: the frames of CONFIG and SCAN, the disregarded
kinds, the unknown and the bad queries; and the CONTENT fragment that is taken.
-/

namespace Sys2Proof.Machine

variable {s : State}

/-! ### Frames without effect -/

/-- R23, R24: a delivered frame on which nothing acts leaves the busy line, and nothing more. -/
theorem exec_undelivered {c : Instr} {a : Byte} {b : Body} (hc : frameOf c = some (a, b)) (hears : Hears s a)
    (hb : bodyOk b = true) (disregarded : deliver a b (lineBusy s) = lineBusy s) :
    ∃ t, exec c s = .next t ∧ Changes [.link] s t ∧ t.link = busyLink s :=
  ⟨lineBusy s, by rw [exec_delivered hc hears hb, disregarded], changes_lineBusy s, rfl⟩

/-- R19: before LISTENING a frame of the line's readings is dropped. -/
theorem receiveHeard_off {h : Heard} (off : onTheLink s = false) (other : h.own = false) :
    receiveHeard h s = lineBusy s := by
  unfold receiveHeard hearFrame
  rw [if_neg (by simp [other]), if_neg (by simp [off])]

theorem onTheLink_of_before (life : s.start.life = .config ∨ s.start.life = .scan) : onTheLink s = false := by
  rcases life with h | h <;> simp [onTheLink, h]

theorem onTheLink_cases (h : onTheLink s = true) : s.start.life = .listening ∨ s.start.life = .joined := by
  simpa [onTheLink] using h

/-- Settles O13: in each of the three the delivery is the identity. -/
theorem framesForOthersChangeNothing : Obligations.FramesForOthersChangeNothing := by
  unfold Obligations.FramesForOthersChangeNothing
  intro sender s hears
  refine ⟨fun tag outcome kind code data hdata => ?_, fun target tag kind arg harg notTaken => ?_,
    fun target scope htarget hscope other => ?_⟩
  · exact exec_undelivered rfl hears (by simpa [bodyOk] using hdata) rfl
  · refine exec_undelivered rfl hears (by simpa [bodyOk] using harg) ?_
    show (if s.start.life = .joined then takeQuery target tag kind arg (lineBusy s) else lineBusy s) = _
    split
    · rename_i joined
      exact if_neg (notTaken.resolve_left (by simp [joined]))
    · rfl
  · refine exec_undelivered rfl hears (by simp [bodyOk, htarget, hscope]) (if_neg ?_)
    rintro (mine | all)
    · exact other mine
    · subst all
      exact absurd htarget (by decide)

/-- Settles O14. -/
theorem framesBeforeListeningAreDropped : Obligations.FramesBeforeListeningAreDropped := by
  unfold Obligations.FramesBeforeListeningAreDropped
  intro c s running before heard
  have off := onTheLink_of_before before
  refine ⟨lineBusy s, ?_, changes_lineBusy s, rfl⟩
  rcases heard with hframe | ⟨h, rfl, other⟩
  · obtain ⟨⟨a, b⟩, hc⟩ := Option.ne_none_iff_exists'.mp hframe
    rw [exec_of_frameOf hc, whenRunning_running running, receiveBody_off _ _ off]
  · exact (whenRunning_running running).trans (congrArg _ (receiveHeard_off off other))

/-! ### Queries without an action -/

theorem classify_unknown {kind : Byte} {arg : List Byte} (h : kind.toNat = 0 ∨ 8 ≤ kind.toNat) :
    classify kind arg = .unknown := by
  unfold classify
  split <;> first | rfl | omega

theorem classify_bad {kind : Byte} {arg : List Byte}
    (h : ((kind.toNat = 1 ∨ kind.toNat = 2) ∧ arg ≠ [0] ∧ arg ≠ [1]) ∨ (kind.toNat = 3 ∧ arg.length ≠ 1) ∨
      (4 ≤ kind.toNat ∧ kind.toNat ≤ 7 ∧ arg ≠ [])) : classify kind arg = .badArgument := by
  have none_of : ∀ q, arg ≠ [] → noArgument arg q = .badArgument := by
    intro q ne
    cases arg with
    | nil => exact absurd rfl ne
    | cons => rfl
  rcases h with ⟨hk | hk, h0, h1⟩ | ⟨hk, hl⟩ | ⟨hlo, hhi, ne⟩
  · simp only [classify, hk, if_neg h0, if_neg h1]
  · simp only [classify, hk, if_neg h0, if_neg h1]
  · match arg, hl with
    | [], _ => simp [classify, hk]
    | [_], hl => exact absurd rfl hl
    | _ :: _ :: _, _ => simp [classify, hk]
  · have four : kind.toNat = 4 ∨ kind.toNat = 5 ∨ kind.toNat = 6 ∨ kind.toNat = 7 := by omega
    rcases four with hk | hk | hk | hk <;> simp [classify, hk, none_of _ ne]

/-- R167: a taken query without an action changes the transmit queue alone. -/
theorem exec_query_replyOnly {c : Instr} {sender target tag kind : Byte} {arg : List Byte} {q : QueryCase}
    (hc : frameOf c = some (sender, .query target tag kind arg)) (taken : TakesQuery s sender target)
    (hlen : arg.length ≤ 4) (hq : classify kind arg = q) (noAction : queryAction q (lineBusy s) = lineBusy s) :
    ∃ t, exec c s = .next t ∧ Changes [.link] s t ∧
      t.link = linkWithReply (replyTo tag kind q (lineBusy s)) (busyLink s) := by
  obtain ⟨t, hexec, changed, hlink⟩ := exec_query_linkOnly hc taken hlen hq (by rw [noAction]; rfl)
    (by rw [noAction]; exact .refl _ _)
  rw [noAction] at hlink
  exact ⟨t, hexec, changed, hlink⟩

/-- Settles O33. -/
theorem unknownAndBadQueriesChangeOnlyTheQueue : Obligations.UnknownAndBadQueriesChangeOnlyTheQueue := by
  unfold Obligations.UnknownAndBadQueriesChangeOnlyTheQueue
  intro c sender target tag kind arg s hc hlen taken
  exact ⟨fun h => exec_query_replyOnly hc taken hlen (classify_unknown h) rfl,
    fun h => exec_query_replyOnly hc taken hlen (classify_bad h) rfl⟩

/-! ### A fragment taken -/

theorem takeContent_taken {serial seq : Half} {line first : Byte} {cells : List Byte}
    (h : s.page.stagingState = .assembling serial seq.toNat) :
    takeContent serial seq line first cells s = takeFragment serial seq.toNat line first cells s := by
  simp [takeContent, h]

theorem length_writeFragment (line first : Nat) (cells : List Byte) :
    (writeFragment s line first cells).length = s.page.staging.length := by
  unfold writeFragment
  split <;> simp

/-- R9: a cell of the rectangle lies within an image of its size. -/
theorem cellIndex_lt {lines cc l k : Nat} (hl : l < lines) (hk : k < cc) : l * cc + k < lines * cc := by
  calc l * cc + k < l * cc + cc := by omega
    _ = (l + 1) * cc := by ring
    _ ≤ lines * cc := Nat.mul_le_mul_right cc hl

/-- R13: the cells of STAGING after a fragment, by tile line and tile cell. -/
theorem cellAt_writeFragment {c : Settings} {line first : Nat} {cells : List Byte} {l k : Nat}
    (settings : s.start.settings = some c) (size : s.page.staging.length = c.lineCount * c.cellCount)
    (hl : l < c.lineCount) (hk : k < c.cellCount) :
    cellAt (writeFragment s line first cells) c.cellCount l k =
      if c.firstLine + l = line ∧ first ≤ c.firstCell + k ∧ c.firstCell + k < first + cells.length then
        cells.getD (c.firstCell + k - first) 0
      else cellAt s.page.staging c.cellCount l k := by
  have inside : l * c.cellCount + k < s.page.staging.length := size ▸ cellIndex_lt hl hk
  have positive : 0 < c.cellCount := by omega
  have hdiv : (l * c.cellCount + k) / c.cellCount = l := by
    rw [Nat.mul_comm, Nat.mul_add_div positive, Nat.div_eq_of_lt hk, Nat.add_zero]
  have hmod : (l * c.cellCount + k) % c.cellCount = k := by
    rw [Nat.mul_comm, Nat.mul_add_mod, Nat.mod_eq_of_lt hk]
  unfold cellAt writeFragment
  simp only [settings, List.getD_eq_getElem?_getD, List.getElem?_mapIdx, List.getElem?_eq_getElem inside, Option.map_some,
    Option.getD_some, fragmentByte, hdiv, hmod]
  split
  · rename_i covers
    rw [List.getElem?_eq_getElem (by omega)]
    rfl
  · rfl

/-- Settles O20. -/
theorem takenFragmentWritesItsOverlap : Obligations.TakenFragmentWritesItsOverlap := by
  unfold Obligations.TakenFragmentWritesItsOverlap
  intro sender serial seq line first cells s c hears hb settings staging ⟨size, _⟩
  have counts : lineCount s = c.lineCount ∧ cellCount s = c.cellCount := by
    simp [lineCount, cellCount, settings]
  rw [counts.1, counts.2] at size
  refine ⟨takeFragment serial seq.toNat line first cells (lineBusy s), ?_,
    (changes_lineBusy s).comp (changes_withPage _ _), rfl, rfl, length_writeFragment .., fun l k hl hk => ?_⟩
  · rw [exec_delivered (b := .content serial seq line first cells) rfl hears hb]
    exact congrArg _ (takeContent_taken (s := lineBusy s) staging)
  · exact cellAt_writeFragment (s := lineBusy s) settings size hl hk

end Sys2Proof.Machine
end

section
/-!
The page link's wire form (R14 to R22): what the readings of a line spell, the check as a shift register fed bit by bit,
the bodies and R17's table, and the six checks of a frame.
-/

namespace Sys2Proof.Machine

/-! ### Characters of a line's readings -/

theorem exists_ten_of_length {bits : List Bool} (h : 10 ≤ bits.length) :
    ∃ start b0 b1 b2 b3 b4 b5 b6 b7 stop rest,
      bits = start :: b0 :: b1 :: b2 :: b3 :: b4 :: b5 :: b6 :: b7 :: stop :: rest := by
  match bits, h with
  | start :: b0 :: b1 :: b2 :: b3 :: b4 :: b5 :: b6 :: b7 :: stop :: rest, _ =>
    exact ⟨start, b0, b1, b2, b3, b4, b5, b6, b7, stop, rest, rfl⟩

/-- R15: readings too few for a character spell none, and break it if there are any. -/
theorem readChars_of_short {bits : List Bool} (h : bits.length < 10) :
    readChars bits = (decide (bits.length ≠ 0), []) := by
  unfold readChars
  split
  · rfl
  · simp only [List.length_cons] at h
    omega
  · rename_i notEmpty _
    have : bits.length ≠ 0 := fun h0 => notEmpty (List.length_eq_zero_iff.mp h0)
    simp [this]

/-- R15: the data bits of a character, least significant first. -/
theorem getLsbD_dataByte (b0 b1 b2 b3 b4 b5 b6 b7 : Bool) :
    ∀ k < 8, [b0, b1, b2, b3, b4, b5, b6, b7][k]? = some ((dataByte b0 b1 b2 b3 b4 b5 b6 b7).getLsbD k) := by
  revert b0 b1 b2 b3 b4 b5 b6 b7
  decide

/-- The readings fall into tens, a last part of fewer than ten aside. -/
theorem readings_induction {P : List Bool → Prop} (short : ∀ bits, bits.length < 10 → P bits)
    (ten : ∀ start b0 b1 b2 b3 b4 b5 b6 b7 stop rest, P rest →
      P (start :: b0 :: b1 :: b2 :: b3 :: b4 :: b5 :: b6 :: b7 :: stop :: rest)) (bits : List Bool) : P bits := by
  induction hn : bits.length using Nat.strong_induction_on generalizing bits with
  | _ n ih =>
    by_cases h : bits.length < 10
    · exact short bits h
    · obtain ⟨start, b0, b1, b2, b3, b4, b5, b6, b7, stop, rest, rfl⟩ := exists_ten_of_length (by omega : 10 ≤ bits.length)
      exact ten _ _ _ _ _ _ _ _ _ _ rest (ih rest.length (by simp only [List.length_cons] at hn; omega) rest rfl)

theorem length_readChars (bits : List Bool) : (readChars bits).2.length = bits.length / 10 := by
  induction bits using readings_induction with
  | short bits h => simp [readChars_of_short h, Nat.div_eq_of_lt h]
  | ten start b0 b1 b2 b3 b4 b5 b6 b7 stop rest ih =>
    simp only [readChars, List.length_cons, ih]
    omega

/-- R15: the characters' data bits stand where R15's coding puts them. -/
theorem bits_readChars (bits : List Bool) :
    ∀ i < (readChars bits).2.length, ∀ k < 8,
      bits[10 * i + 1 + k]? = some (((readChars bits).2.getD i 0).getLsbD k) := by
  induction bits using readings_induction with
  | short bits h => simp [readChars_of_short h]
  | ten start b0 b1 b2 b3 b4 b5 b6 b7 stop rest ih =>
    intro i hi k hk
    cases i with
    | zero =>
      have inside : [start, b0, b1, b2, b3, b4, b5, b6, b7][1 + k]? =
          (start :: b0 :: b1 :: b2 :: b3 :: b4 :: b5 :: b6 :: b7 :: stop :: rest)[10 * 0 + 1 + k]? := by
        interval_cases k <;> rfl
      rw [← inside, Nat.add_comm 1 k]
      exact getLsbD_dataByte b0 b1 b2 b3 b4 b5 b6 b7 k hk
    | succ i =>
      rw [show 10 * (i + 1) + 1 + k = (10 * i + 1 + k) + 10 by ring]
      exact ih i (by simpa [readChars] using hi) k hk

/-- R15: a character is broken when its stop bit reads low, or the readings end before it. -/
theorem readChars_broken_iff (bits : List Bool) :
    (readChars bits).1 = true ↔ bits.length % 10 ≠ 0 ∨ ∃ i < bits.length / 10, bits[10 * i + 9]? = some false := by
  induction bits using readings_induction with
  | short bits h => simp [readChars_of_short h, Nat.div_eq_of_lt h, Nat.mod_eq_of_lt h]
  | ten start b0 b1 b2 b3 b4 b5 b6 b7 stop rest ih =>
    generalize hw : start :: b0 :: b1 :: b2 :: b3 :: b4 :: b5 :: b6 :: b7 :: stop :: rest = whole
    have hlen : whole.length = rest.length + 10 := by rw [← hw]; rfl
    have hfirst : whole[10 * 0 + 9]? = some stop := by rw [← hw]; rfl
    have hlater (i : Nat) : whole[10 * (i + 1) + 9]? = rest[10 * i + 9]? := by
      rw [← hw, show 10 * (i + 1) + 9 = (10 * i + 9) + 10 by ring]
      rfl
    have hread : (readChars whole).1 = (!stop || (readChars rest).1) := by rw [← hw]; rfl
    rw [hread, Bool.or_eq_true, ih, hlen, Nat.add_mod_right, Nat.add_div_right _ (by decide), or_left_comm]
    refine or_congr_right ⟨?_, ?_⟩
    · rintro (low | ⟨i, hi, hbit⟩)
      · exact ⟨0, by omega, by rw [hfirst, (Bool.not_eq_true' stop).mp low]⟩
      · exact ⟨i + 1, by omega, by rw [hlater, hbit]⟩
    · rintro ⟨i, hi, hbit⟩
      cases i with
      | zero => exact .inl (by rw [hfirst] at hbit; simpa using hbit)
      | succ i => exact .inr ⟨i, by omega, by rw [← hlater, hbit]⟩

theorem heard_broken_iff (h : Heard) : h.broken = true ↔ h.line.length < 12 ∨ (h.line.length - 12) % 10 ≠ 0 ∨
    ∃ i < (h.line.length - 12) / 10, h.line[12 + 10 * i + 9]? = some false := by
  unfold Heard.broken
  rw [Bool.or_eq_true, decide_eq_true_iff, readChars_broken_iff, List.length_drop]
  simp only [leadBits, List.getElem?_drop, Nat.add_assoc]

theorem heard_spells {h : Heard} (whole : h.broken = false) : h.line.length = 12 + 10 * h.chars.length ∧
    ∀ i < h.chars.length, ∀ k < 8, h.line[12 + 10 * i + 1 + k]? = some ((h.chars.getD i 0).getLsbD k) := by
  have unbroken := mt (heard_broken_iff h).mpr (by simp [whole])
  push Not at unbroken
  obtain ⟨hlead, hrest, -⟩ := unbroken
  refine ⟨?_, fun i hi k hk => ?_⟩
  · have := length_readChars (h.line.drop leadBits)
    rw [List.length_drop] at this
    change _ = 12 + 10 * (readChars (h.line.drop leadBits)).2.length
    rw [this, leadBits]
    omega
  · have := bits_readChars (h.line.drop leadBits) i hi k hk
    rwa [List.getElem?_drop, show leadBits + (10 * i + 1 + k) = 12 + 10 * i + 1 + k by simp [leadBits]; ring] at this

/-! ### What a transmitter drives -/

theorem length_flatMap_charBits (chars : List Byte) : (chars.flatMap charBits).length = 10 * chars.length := by
  induction chars with
  | nil => rfl
  | cons b chars ih => simp only [List.flatMap_cons, List.length_append, charBits_length, ih, List.length_cons]; ring

theorem getElem?_flatMap_charBits {chars : List Byte} {i j : Nat} (hi : i < chars.length) (hj : j < 10) :
    (chars.flatMap charBits)[10 * i + j]? = (charBits (chars.getD i 0))[j]? := by
  induction chars generalizing i with
  | nil => cases hi
  | cons b chars ih =>
    rw [List.flatMap_cons]
    cases i with
    | zero =>
      rw [List.getElem?_append_left (by rw [charBits_length]; omega), Nat.mul_zero, Nat.zero_add]
      rfl
    | succ i =>
      rw [List.getElem?_append_right (by rw [charBits_length]; omega), charBits_length,
        show 10 * (i + 1) + j - 10 = 10 * i + j by omega]
      exact ih (Nat.lt_of_succ_lt_succ hi)

theorem length_wireBits (chars : List Byte) : (wireBits chars).length = 12 + 10 * chars.length := by
  rw [wireBits, List.length_append, List.length_replicate, length_flatMap_charBits]
  rfl

theorem wireBits_lead (chars : List Byte) {i : Nat} (hi : i < 12) : (wireBits chars)[i]? = some false := by
  rw [wireBits, List.getElem?_append_left (by simpa [leadBits] using hi), List.getElem?_replicate,
    if_pos (by simpa [leadBits] using hi)]

theorem wireBits_char {chars : List Byte} {i j : Nat} (hi : i < chars.length) (hj : j < 10) :
    (wireBits chars)[12 + 10 * i + j]? = (charBits (chars.getD i 0))[j]? := by
  rw [wireBits, List.getElem?_append_right (by simp [leadBits]; omega), List.length_replicate, leadBits,
    show 12 + 10 * i + j - 12 = 10 * i + j by omega, getElem?_flatMap_charBits hi hj]

theorem readChars_flatMap (chars : List Byte) : readChars (chars.flatMap charBits) = (false, chars) := by
  induction chars with
  | nil => rfl
  | cons b chars ih => rw [List.flatMap_cons, readChars_charBits_append, ih]

theorem drop_wireBits (chars : List Byte) : (wireBits chars).drop leadBits = chars.flatMap charBits :=
  List.drop_left' (by simp)

theorem broken_wireBits (own : Bool) (chars : List Byte) : Heard.broken ⟨own, wireBits chars⟩ = false := by
  unfold Heard.broken
  rw [drop_wireBits, readChars_flatMap, length_wireBits]
  simp [leadBits]

theorem chars_wireBits (own : Bool) (chars : List Byte) : Heard.chars ⟨own, wireBits chars⟩ = chars := by
  unfold Heard.chars
  rw [drop_wireBits, readChars_flatMap]

/-! ### The check as a register fed bit by bit -/

/-- R18: one bit fed into the check register: the register is shifted, and the generator added where the bit leaving
differs from the bit fed. -/
def feedBit (register : Half) (bit : Bool) : Half :=
  if register.getLsbD 15 = bit then register <<< 1 else (register <<< 1) ^^^ 0x1021#16

/-- The bits of a byte, most significant first. -/
def byteBits (b : Byte) : List Bool := (List.range 8).map fun k => b.getLsbD (7 - k)

theorem feedBit_eq (register : Half) (bit : Bool) :
    feedBit register bit = crcShift (register ^^^ bif bit then 0x8000#16 else 0#16) := by
  have msb : register.msb = register.getLsbD 15 := by simp [BitVec.msb_eq_getLsbD_last]
  have fed : crcShift (bif bit then 0x8000#16 else 0#16) = bif bit then 0x1021#16 else 0#16 := by
    cases bit <;> decide
  rw [crcShift_xor, fed]
  unfold feedBit crcShift
  rw [msb]
  cases register.getLsbD 15 <;> cases bit <;> simp

/-- The register is linear in what it holds at the start. -/
theorem foldl_feedBit_xor (bits : List Bool) (c d : Half) :
    bits.foldl feedBit (c ^^^ d) = crcShifts bits.length c ^^^ bits.foldl feedBit d := by
  induction bits generalizing c d with
  | nil => rfl
  | cons bit bits ih =>
    rw [List.foldl_cons, List.foldl_cons, feedBit_eq, BitVec.xor_assoc, crcShift_xor, ← feedBit_eq, ih]
    rfl

/-- A byte fed into an empty register. -/
theorem foldl_feedBit_zero (b : Byte) : (byteBits b).foldl feedBit 0#16 = crcShifts 8 (b ++ 0#8 : BitVec 16) := by
  revert b
  decide

theorem crcByte_eq (c : Half) (b : Byte) : crcByte c b = (byteBits b).foldl feedBit c := by
  calc crcByte c b = crcShifts 8 c ^^^ crcShifts 8 (b ++ 0#8 : BitVec 16) := crcShifts_xor 8 _ _
    _ = (byteBits b).foldl feedBit (c ^^^ 0#16) := by rw [foldl_feedBit_xor, foldl_feedBit_zero]; rfl
    _ = (byteBits b).foldl feedBit c := by rw [BitVec.xor_zero]

theorem crc16_eq (bytes : List Byte) : crc16 bytes = (bytes.flatMap byteBits).foldl feedBit 0xFFFF#16 := by
  unfold crc16
  generalize 0xFFFF#16 = c
  induction bytes generalizing c with
  | nil => rfl
  | cons b bytes ih => rw [List.foldl_cons, List.flatMap_cons, List.foldl_append, ih, crcByte_eq]

end Sys2Proof.Machine
end

section
/-!
The bodies of the frame kinds, R17's table of malformed bodies and the six checks of a frame (R16 to R22), and the
obligations on the receive path.
-/

namespace Sys2Proof.Machine

variable {s : State}

/-! ### Two-byte fields -/

theorem halfBytes_eq (h : Half) :
    halfBytes h = [BitVec.ofNat 8 (h.toNat / 256), BitVec.ofNat 8 (h.toNat % 256)] := by
  unfold halfBytes
  congr 1
  · exact BitVec.eq_of_toNat_eq (by simp [Nat.shiftRight_eq_div_pow])
  · congr 1
    exact BitVec.eq_of_toNat_eq (by simp)

theorem halfBytes_append (hi lo : Byte) : halfBytes (hi ++ lo : BitVec 16) = [hi, lo] := by
  unfold halfBytes
  congr 1
  · ext i hlt
    rw [BitVec.getElem_extractLsb', BitVec.getLsbD_append, if_neg (by omega), Nat.add_sub_cancel_left,
      BitVec.getLsbD_eq_getElem hlt]
  · congr 1
    ext i hlt
    rw [BitVec.getElem_extractLsb', BitVec.getLsbD_append, Nat.zero_add, if_pos hlt, BitVec.getLsbD_eq_getElem hlt]

theorem append_halfBytes (h : Half) : (h.extractLsb' 8 8 ++ h.extractLsb' 0 8 : BitVec 16) = h := by
  ext i hlt
  rw [BitVec.getElem_append]
  split
  · rw [BitVec.getElem_extractLsb', Nat.zero_add, BitVec.getLsbD_eq_getElem hlt]
  · rw [BitVec.getElem_extractLsb', show 8 + (i - 8) = i by omega, BitVec.getLsbD_eq_getElem hlt]

theorem halfByte_toNat (h : Half) :
    256 * (h.extractLsb' 8 8).toNat + (h.extractLsb' 0 8).toNat = h.toNat := by
  simp [Nat.shiftRight_eq_div_pow]
  omega

/-! ### Bodies and their bytes -/

theorem parseBody_bodyBytes (b : Body) : parseBody (Body.kindCode b).toNat (bodyBytes b) = some b := by
  cases b <;> simp [parseBody, Body.kindCode, bodyBytes, halfBytes, append_halfBytes]

theorem bodyBytes_of_parseBody {kind : Nat} {bytes : List Byte} {b : Body} (h : parseBody kind bytes = some b) :
    (Body.kindCode b).toNat = kind ∧ bodyBytes b = bytes := by
  unfold parseBody at h
  split at h <;> simp only [Option.some.injEq, reduceCtorEq] at h <;> subst h <;>
    simp [Body.kindCode, bodyBytes, halfBytes_append]

theorem kindCode_bounds (b : Body) : 1 ≤ (Body.kindCode b).toNat ∧ (Body.kindCode b).toNat ≤ 8 := by
  cases b <;> simp [Body.kindCode]

theorem half_eq_zero_iff (h : Half) : h = 0 ↔ h.toNat = 0 := BitVec.toNat_eq

theorem byte_eq_255_iff (b : Byte) : b = 255 ↔ b.toNat = 255 := BitVec.toNat_eq

/-- R17: a body fails the checks exactly where its bytes are malformed: kind by kind both sides are the same bounds on
the fields, the two-byte ones read from their bytes. -/
theorem bodyOk_iff (b : Body) : bodyOk b = true ↔ ¬ malformedBody (Body.kindCode b).toNat (bodyBytes b) := by
  cases b <;>
    simp only [bodyOk, malformedBody, Body.kindCode, bodyBytes, halfBytes, List.cons_append, List.nil_append,
      List.getD_cons_zero, List.getD_cons_succ, halfByte_toNat, List.length_cons, List.length_nil, BitVec.reduceToNat,
      Bool.and_eq_true, Bool.or_eq_true, bne_iff_ne, beq_iff_eq, decide_eq_true_iff, ne_eq,
      half_eq_zero_iff, byte_eq_255_iff, Nat.reduceAdd, not_true_eq_false, false_or]
  all_goals omega

/-- R17: body bytes that are not malformed spell a body. -/
theorem parseBody_of_not_malformed {kind : Nat} {bytes : List Byte} (lo : 1 ≤ kind) (hi : kind ≤ 8)
    (h : ¬ malformedBody kind bytes) : ∃ b, parseBody kind bytes = some b := by
  have known : kind = 1 ∨ kind = 2 ∨ kind = 3 ∨ kind = 4 ∨ kind = 5 ∨ kind = 6 ∨ kind = 7 ∨ kind = 8 := by omega
  rcases known with rfl | rfl | rfl | rfl | rfl | rfl | rfl | rfl
  · have length : bytes.length = 3 := by_contra fun ne => h (.inl ne)
    match bytes, length with | [_, _, _], _ => exact ⟨_, rfl⟩
  · have length : 7 ≤ bytes.length := Nat.le_of_not_lt fun lt => h (.inl lt)
    match bytes, length with | _ :: _ :: _ :: _ :: _ :: _ :: _, _ => exact ⟨_, rfl⟩
  · have length : bytes.length = 4 := by_contra fun ne => h (.inl ne)
    match bytes, length with | [_, _, _, _], _ => exact ⟨_, rfl⟩
  · have length : bytes.length = 5 := by_contra fun ne => h (.inl ne)
    match bytes, length with | [_, _, _, _, _], _ => exact ⟨_, rfl⟩
  · have length : bytes.length = 9 := by_contra fun ne => h (.inl ne)
    match bytes, length with | [_, _, _, _, _, _, _, _, _], _ => exact ⟨_, rfl⟩
  · have length : 3 ≤ bytes.length := Nat.le_of_not_lt fun lt => h (.inl lt)
    match bytes, length with | _ :: _ :: _ :: _, _ => exact ⟨_, rfl⟩
  · have length : 4 ≤ bytes.length := Nat.le_of_not_lt fun lt => h (.inl lt)
    match bytes, length with | _ :: _ :: _ :: _ :: _, _ => exact ⟨_, rfl⟩
  · have length : bytes.length = 2 := by_contra fun ne => h (.inl ne)
    match bytes, length with | [_, _], _ => exact ⟨_, rfl⟩

theorem judgeBody_of_malformed {kind sender : Byte} {bytes : List Byte} (h : malformedBody kind.toNat bytes) :
    judgeBody kind sender bytes = .malformed := by
  unfold judgeBody
  cases hb : parseBody kind.toNat bytes with
  | none => rfl
  | some b =>
    obtain ⟨hkind, hbytes⟩ := bodyBytes_of_parseBody hb
    exact if_neg fun ok => (bodyOk_iff b).mp ok (by rw [hkind, hbytes]; exact h)

theorem judgeBody_of_not_malformed {kind sender : Byte} {bytes : List Byte} (lo : 1 ≤ kind.toNat) (hi : kind.toNat ≤ 8)
    (h : ¬ malformedBody kind.toNat bytes) :
    ∃ b, judgeBody kind sender bytes = .good sender b ∧ Body.kindCode b = kind ∧ bodyBytes b = bytes := by
  obtain ⟨b, hb⟩ := parseBody_of_not_malformed lo hi h
  obtain ⟨hkind, hbytes⟩ := bodyBytes_of_parseBody hb
  refine ⟨b, ?_, BitVec.eq_of_toNat_eq hkind, hbytes⟩
  unfold judgeBody
  rw [hb]
  exact if_pos ((bodyOk_iff b).mpr (by rw [hkind, hbytes]; exact h))

/-! ### A frame's verdict -/

theorem judgeParsed_of_ok {a : Byte} {b : Body} (ha : a.toNat ≤ 31) (hb : bodyOk b = true) :
    judgeParsed a b = .good a b := by
  rw [judgeParsed, if_neg (by omega), if_pos hb]

theorem judgeParsed_of_malformed {a : Byte} {b : Body} (h : 31 < a.toNat ∨ bodyOk b = false) :
    judgeParsed a b = .malformed := by
  unfold judgeParsed
  split
  · rfl
  · exact if_neg (by simp [h.resolve_left ‹_›])

/-- R17: a body that passes its checks has at most 46 bytes. -/
theorem length_bodyBytes_le {b : Body} (h : bodyOk b = true) : (bodyBytes b).length ≤ 46 := by
  cases b <;> simp only [bodyOk, Bool.and_eq_true, decide_eq_true_iff] at h <;>
    simp only [bodyBytes, halfBytes, List.length_append, List.length_cons, List.length_nil] <;> omega

theorem length_frameChars (a : Byte) (b : Body) : (frameChars a b).length = (bodyBytes b).length + 5 := by
  simp [frameChars, frameHead, halfBytes]

/-- R16, R20: the characters of a frame that passes the checks of R17 are judged good. -/
theorem judgeFrame_frameChars {a : Byte} {b : Body} (ha : a.toNat ≤ 31) (hb : bodyOk b = true) :
    judgeFrame false (frameChars a b) = .good a b := by
  have short := length_bodyBytes_le hb
  have split_check : (frameChars a b).length - 2 = (frameHead a b).length := by simp [length_frameChars, frameHead]
  have lengthByte : (BitVec.ofNat 8 (bodyBytes b).length).toNat = (bodyBytes b).length := by
    rw [BitVec.toNat_ofNat]
    omega
  have body : (bodyBytes b ++ halfBytes (crc16 (frameHead a b))).take (bodyBytes b).length = bodyBytes b :=
    List.take_left
  obtain ⟨lo, hi⟩ := kindCode_bounds b
  unfold judgeFrame
  rw [if_neg (by rw [length_frameChars]; simp), split_check,
    if_neg (by simp [frameChars])]
  change (if 48 < (BitVec.ofNat 8 (bodyBytes b).length).toNat ∨ (frameChars a b).length ≠
      (BitVec.ofNat 8 (bodyBytes b).length).toNat + 5 then Verdict.malformed
    else if 31 < a.toNat then .malformed
    else if (Body.kindCode b).toNat = 0 ∨ 8 < (Body.kindCode b).toNat then .unknownKind
    else judgeBody (Body.kindCode b) a ((bodyBytes b ++ halfBytes (crc16 (frameHead a b))).take
      (BitVec.ofNat 8 (bodyBytes b).length).toNat)) = _
  rw [lengthByte, body, length_frameChars, if_neg (by omega), if_neg (by omega), if_neg (by omega), judgeBody,
    parseBody_bodyBytes]
  exact if_pos hb

/-- R20, steps 3 to 6, by the characters' places. -/
theorem judgeFields_eq {chars : List Byte} (h : 5 ≤ chars.length) : judgeFields chars =
    if 48 < (chars.getD 2 0).toNat ∨ chars.length ≠ (chars.getD 2 0).toNat + 5 then .malformed
    else if 31 < (chars.getD 1 0).toNat then .malformed
    else if (chars.getD 0 0).toNat = 0 ∨ 8 < (chars.getD 0 0).toNat then .unknownKind
    else judgeBody (chars.getD 0 0) (chars.getD 1 0) ((chars.drop 3).take (chars.getD 2 0).toNat) := by
  match chars, h with
  | _ :: _ :: _ :: _, _ => rfl

theorem judgeFrame_broken {broken : Bool} {chars : List Byte} (h : broken = true ∨ chars.length < 5) :
    judgeFrame broken chars = .crcError := if_pos (by simpa using h)

theorem judgeFrame_check {broken : Bool} {chars : List Byte}
    (bad : halfBytes (crc16 (chars.take (chars.length - 2))) ≠ chars.drop (chars.length - 2)) :
    judgeFrame broken chars = .crcError := by
  unfold judgeFrame
  rw [if_pos bad, ite_self]

theorem judgeFrame_fields {broken : Bool} {chars : List Byte} (h : ¬ (broken = true ∨ chars.length < 5))
    (good : ¬ halfBytes (crc16 (chars.take (chars.length - 2))) ≠ chars.drop (chars.length - 2)) :
    judgeFrame broken chars = judgeFields chars := by
  unfold judgeFrame
  rw [if_neg (by simpa using h), if_neg good]

theorem wf_frame {c : Instr} {a : Byte} {b : Body} (hc : frameOf c = some (a, b)) (wf : c.wf = true) :
    a.toNat ≤ 31 ∧ bodyOk b = true := by
  have : wfFrame a b = true := by
    cases c <;> simp only [frameOf, Option.some.injEq, Prod.mk.injEq, reduceCtorEq] at hc <;>
      obtain ⟨rfl, rfl⟩ := hc <;> simp only [Instr.wf, Bool.and_eq_true] at wf <;> simp only [wf]
  simpa [wfFrame] using this

set_option maxRecDepth 20000 in
/-- R18's reference: the check over the characters 1 to 9. -/
theorem crc16_reference : crc16 [0x31, 0x32, 0x33, 0x34, 0x35, 0x36, 0x37, 0x38, 0x39] = 0x29B1 := by decide

/-! ### The obligations -/

/-- Settles O15: the readings by the reading of characters; then one case for each check. -/
theorem sixChecksDecideAFrame : Obligations.SixChecksDecideAFrame := by
  unfold Obligations.SixChecksDecideAFrame
  intro h s
  refine ⟨fun own => ?_, heard_broken_iff h, heard_spells, fun running on other => ?_⟩
  · show whenRunning s (receiveHeard h) = _
    have : receiveHeard h s = s := if_pos own
    unfold whenRunning
    rw [this, ite_self]
  refine ⟨actOnVerdict (judgeFrame h.broken h.chars) (lineBusy s), ?_, ?_⟩
  · show whenRunning s (receiveHeard h) = _
    rw [whenRunning_running running]
    unfold receiveHeard hearFrame
    rw [if_neg (by simp [other]), if_pos on]
  · intro counted n
    have counts (k : Counter) {v : Verdict} (hv : judgeFrame h.broken h.chars = v)
        (hk : actOnVerdict v (lineBusy s) = count k (lineBusy s)) : counted k := by
      change Changes [.link] s (actOnVerdict _ _) ∧ _
      rw [hv, hk]
      exact ⟨changes_count_lineBusy k, link_count_lineBusy k⟩
    split
    · rename_i broken
      exact counts _ (judgeFrame_broken broken) rfl
    split
    · rename_i bad
      exact counts _ (judgeFrame_check bad) rfl
    rename_i whole good
    have fields := (judgeFrame_fields whole good).trans (judgeFields_eq (by omega))
    split
    · rename_i length
      exact counts _ (fields.trans (if_pos length)) rfl
    rename_i length
    rw [if_neg length] at fields
    split
    · rename_i high
      exact counts _ (fields.trans (if_pos high)) rfl
    rename_i sender
    rw [if_neg sender] at fields
    split
    · rename_i unknown
      exact counts _ (fields.trans (if_pos unknown)) rfl
    rename_i known
    rw [if_neg known, judgeBody] at fields
    split
    · rename_i none
      exact counts _ (fields.trans (by rw [none])) rfl
    · rename_i b some
      rw [some] at fields
      split
      · rename_i bad
        exact counts _ (fields.trans (if_neg (by simp [bad]))) rfl
      · rename_i ok
        rw [fields.trans (if_pos (by simpa using ok))]
        rfl

/-- Settles O16: the bytes by their definitions, the check by its linearity, the line coding character by character; and a
well-formed frame's characters, read back from its readings, are judged as its row is. -/
theorem wireFormActsAsItsRow : Obligations.WireFormActsAsItsRow := by
  unfold Obligations.WireFormActsAsItsRow
  refine ⟨fun sender b => ?_, crc16_eq, ⟨crc16_reference, rfl⟩, fun chars => ⟨length_wireBits chars, fun i => wireBits_lead chars,
    fun i hi => ?_, fun own => ⟨broken_wireBits own chars, chars_wireBits own chars⟩⟩, fun c sender b s hc wf => ?_⟩
  · intro hi lo kind body head
    have hkind : Body.kindCode b = kind := by cases b <;> rfl
    have hbody : bodyBytes b = body := by cases b <;> simp only [bodyBytes, halfBytes_eq] <;> rfl
    have hhead : frameHead sender b = head := by rw [frameHead, hkind, hbody]
    exact ⟨halfBytes_eq, hkind, hbody, by rw [frameChars, hhead, halfBytes_eq]⟩
  · have whole {j : Nat} (hj : j < 10) := wireBits_char (j := j) hi hj
    refine ⟨whole (j := 0) (by decide), fun k hk => ?_, whole (j := 9) (by decide)⟩
    rw [Nat.add_assoc, whole (by omega)]
    interval_cases k <;> rfl
  · obtain ⟨ha, hb⟩ := wf_frame hc wf
    rw [exec_of_frameOf hc]
    show whenRunning s (hearFrame (actOnVerdict (judgeFrame (Heard.broken ⟨false, _⟩) (Heard.chars ⟨false, _⟩)))) = _
    rw [broken_wireBits, chars_wireBits, judgeFrame_frameChars ha hb]
    unfold receiveBody
    rw [judgeParsed_of_ok ha hb]

/-- Settles O17. -/
theorem clashesAndMalformedRowsAreCounted : Obligations.ClashesAndMalformedRowsAreCounted := by
  unfold Obligations.ClashesAndMalformedRowsAreCounted
  refine ⟨fun c sender b s hc running on => ?_, bodyOk_iff, fun kind sender bytes lo hi =>
    ⟨judgeBody_of_malformed, judgeBody_of_not_malformed lo hi⟩⟩
  have heard : exec c s = .next (actOnVerdict (judgeParsed sender b) (lineBusy s)) := by
    rw [exec_of_frameOf hc, whenRunning_running running, receiveBody_on _ _ on]
  refine ⟨fun low ok own => ?_, fun bad => ?_⟩
  · refine ⟨noteClash (lineBusy s), ?_, (changes_lineBusy s).trans ((changes_withLink _ _).trans (changes_count _ _)), rfl⟩
    rw [heard, judgeParsed_of_ok low ((bodyOk_iff b).mpr ok)]
    exact congrArg _ (if_pos own)
  · refine ⟨count .malformed (lineBusy s), ?_, changes_count_lineBusy _, link_count_lineBusy _⟩
    rw [heard, judgeParsed_of_malformed]
    · rfl
    · exact bad.imp id fun malformed => Bool.eq_false_iff.mpr fun ok => (bodyOk_iff b).mp ok malformed

end Sys2Proof.Machine
end

section
/-!
The replies that report the tile's state (R171, R173 to R175), and the levels and costs of a strike (R69, R70).
-/

namespace Sys2Proof.Machine

variable {s : State}

/-! ### Masks and counts -/

theorem lineMask_lt (n : Nat) (f : Nat → Bool) : lineMask n f < 2 ^ n := by
  induction n with
  | zero => exact Nat.one_pos
  | succ n ih =>
    rw [lineMask, Nat.pow_succ]
    split <;> omega

/-- R58, R156: a mask's bit `l` is line `l`'s. -/
theorem testBit_lineMask (n : Nat) (f : Nat → Bool) (l : Nat) :
    (lineMask n f).testBit l = (decide (l < n) && f l) := by
  induction n with
  | zero => simp [lineMask]
  | succ n ih =>
    have lt := lineMask_lt n f
    have value : lineMask (n + 1) f = 2 ^ n * (f n).toNat + lineMask n f := by
      rw [lineMask]
      cases f n <;> simp [Nat.add_comm]
    rw [value, Nat.testBit_two_pow_mul_add _ lt, ih]
    rcases Nat.lt_trichotomy l n with h | rfl | h
    · simp [h, Nat.lt_succ_of_lt h]
    · cases f l <;> simp
    · rw [if_neg (by omega), Nat.testBit_lt_two_pow]
      · simp [Nat.not_lt.mpr (Nat.succ_le_of_lt h)]
      · exact (Bool.toNat_lt _).trans_le (Nat.pow_le_pow_right Nat.two_pos (by omega : 1 ≤ l - n))

/-- R156: a mask of six lines as a byte. -/
theorem getLsbD_lineMask (f : Nat → Bool) (l : Nat) :
    (u8 (lineMask 6 f)).getLsbD l = (decide (l < 6) && f l) := by
  rw [u8, BitVec.getLsbD_ofNat, testBit_lineMask]
  by_cases h : l < 6
  · simp [h, Nat.lt_trans h (by decide : 6 < 8)]
  · simp [h]

theorem guardedMask_eq (s : State) :
    guardedMask s = lineMask 6 (fun l => s.touch.lines[l]?.elim false (fun g => g.guard != .clear)) := by
  unfold guardedMask
  congr 1
  funext l
  cases s.touch.lines[l]? <;> rfl

theorem failedMask_eq (s : State) : failedMask s = lineMask 6 (fun l => s.touch.lines[l]?.elim false (·.failed)) := by
  unfold failedMask
  congr 1
  funext l
  cases s.touch.lines[l]? <;> rfl

theorem jobs_toList (s : State) : s.plan.jobs.toList = (List.range 24).map (jobAt s) := by
  refine List.ext_getElem (by simp) fun i hi _ => ?_
  have lt : i < 24 := by simpa using hi
  simp [jobAt, lt]

/-- R66: the plan job count. -/
theorem jobCount_eq (s : State) : jobCount s = (List.range 24).countP (fun r => (jobAt s r).isSome) := by
  rw [jobCount, jobs_toList, List.countP_map]
  rfl

/-- R107: the slots that hold a row. -/
theorem slotsLive_eq (s : State) :
    slotsLive s = [s.pipe.load, s.pipe.strike, s.pipe.settle, s.pipe.sense].countP Option.isSome := by
  unfold slotsLive
  cases s.pipe.load <;> cases s.pipe.strike <;> cases s.pipe.settle <;> cases s.pipe.sense <;> rfl

/-! ### STATUS summary -/

theorem getLsbD_flagsByte (a b c : Bool) : (flagsByte a b c).getLsbD 0 = a ∧ (flagsByte a b c).getLsbD 1 = b ∧
    (flagsByte a b c).getLsbD 2 = c ∧ ∀ k, 3 ≤ k → (flagsByte a b c).getLsbD k = false := by
  have high : ∀ k < 8, 3 ≤ k → (flagsByte a b c).getLsbD k = false := by revert a b c; decide
  refine ⟨by revert a b c; decide, by revert a b c; decide, by revert a b c; decide, fun k hk => ?_⟩
  by_cases h : k < 8
  · exact high k h hk
  · exact BitVec.getLsbD_of_ge _ _ (by omega)

theorem faultCount_stuck (s : State) :
    faultCount s PinFault.isStuck = s.plan.faults.countP (fun x => x == .stuckUp || x == .stuckDown) := by
  have : PinFault.isStuck = fun x => x == .stuckUp || x == .stuckDown := by
    funext x
    cases x <;> rfl
  rw [faultCount, this]

/-- Settles O25. -/
theorem statusSummaryReportsTheTile : Obligations.StatusSummaryReportsTheTile := by
  unfold Obligations.StatusSummaryReportsTheTile
  refine ⟨⟨rfl, rfl, rfl⟩, ⟨rfl, rfl, rfl, rfl, rfl⟩, ⟨rfl, rfl, rfl⟩, by decide,
    fun s => ⟨jobCount_eq s, slotsLive_eq s⟩, fun sender target tag s taken => ?_⟩
  obtain ⟨t, hexec, changed, hlink⟩ := exec_query_replyOnly (c := .statusSummary sender target tag [0]) (q := .summary) rfl
    taken (by decide) rfl rfl
  have joined : s.start.life = .joined := taken.2.1
  obtain ⟨adjusted, clash, defaults, rest⟩ := getLsbD_flagsByte s.start.adjusted s.link.clash
    ((s.start.settings.map (·.source == .defaults)).getD false)
  refine ⟨t, u8 (guardedMask s), u8 (failedMask s), hexec, changed, ?_, fun l => ?_, fun l => ?_, adjusted, clash,
    defaults.trans ?_, rest⟩
  · rw [hlink]
    congr 1
    show ({ tag := tag, outcome := 1, kind := 1, code := 0, data := summaryData (lineBusy s) } : Reply) = _
    congr 1
    have lineUp : u8 s.link.lineUp.toNat = if s.link.lineUp = true then 1 else 0 := by cases s.link.lineUp <;> rfl
    rw [← faultCount_stuck, ← lineUp]
    unfold summaryData
    rw [show (lineBusy s).start.life = .joined from joined,
      show (lineBusy s).page.stagingState = s.page.stagingState from rfl]
    cases s.page.stagingState <;> rfl
  · rw [guardedMask_eq, getLsbD_lineMask]
  · rw [failedMask_eq, getLsbD_lineMask]
  · cases s.start.settings <;> rfl

/-! ### DIGEST -/

theorem length_digestCells (img : Image) : (digestCells s img).length = img.length := by
  unfold digestCells
  split <;> simp

/-- R173: the status cell's place is fed the byte 0, every other cell stays. -/
theorem getElem?_digestCells {img : Image} {i : Nat} (hi : i < img.length) :
    (digestCells s img)[i]? =
      if (statusCell s).elim false (fun p => p.1 * cellCount s + p.2 == i) then some 0 else img[i]? := by
  unfold digestCells
  split
  · rename_i none
    rw [none]
    rfl
  · rename_i l k some
    rw [some, List.getElem?_set]
    by_cases place : l * cellCount s + k = i
    · simp [place, hi]
    · simp [place]

/-- Settles O27. -/
theorem digestChecksAnImage : Obligations.DigestChecksAnImage := by
  unfold Obligations.DigestChecksAnImage
  intro sender target tag s taken which img himg
  have replied {q : QueryCase} (hq : classify 2 [which] = q) (noAction : queryAction q (lineBusy s) = lineBusy s)
      (reply : replyTo tag 2 q (lineBusy s) =
        { tag := tag, outcome := 1, kind := 2, code := 0, data := digestData s img }) :
      ∃ t, exec (.digest sender target tag [which]) s = .next t ∧ Changes [.link] s t ∧
        t.link = linkWithReply { tag := tag, outcome := 1, kind := 2, code := 0, data := digestData s img } (busyLink s) := by
    rw [← reply]
    exact exec_query_replyOnly rfl taken (by simp) hq noAction
  have answered : ∃ t, exec (.digest sender target tag [which]) s = .next t ∧ Changes [.link] s t ∧
      t.link = linkWithReply { tag := tag, outcome := 1, kind := 2, code := 0, data := digestData s img } (busyLink s) := by
    rcases himg with ⟨rfl, rfl⟩ | ⟨rfl, rfl⟩
    · exact replied (q := .digestShown) rfl rfl rfl
    · exact replied (q := .digestTarget) rfl rfl rfl
  obtain ⟨t, hexec, changed, hlink⟩ := answered
  exact ⟨t, digestCells s img, hexec, changed, hlink, length_digestCells img, fun i hi => getElem?_digestCells hi⟩

/-! ### FAULTS -/

/-- R85: the fault list's entries, pin by pin in reading order. -/
theorem faultEntries_eq (cols first : Nat) (faults : List PinFault) :
    faultEntries cols first faults = (List.range faults.length).filterMap (fun i =>
      let x := faults.getD i .ok
      if x = .ok then none else some ((first + i) / cols, (first + i) % cols, x)) := by
  induction faults generalizing first with
  | nil => rfl
  | cons x faults ih =>
    have later : (fun i : Nat => first + (i + 1)) = fun i => first + 1 + i := by
      funext i
      omega
    rw [faultEntries, ih, List.length_cons, List.range_succ_eq_map, List.filterMap_cons, List.filterMap_map]
    by_cases ok : x = .ok
    · simp [ok, Nat.add_assoc, Nat.add_comm 1]
    · simp [ok, Nat.add_assoc, Nat.add_comm 1]

theorem length_faultEntries (cols first : Nat) (faults : List PinFault) :
    (faultEntries cols first faults).length = faults.countP (· != .ok) := by
  induction faults generalizing first with
  | nil => rfl
  | cons x faults ih =>
    rw [faultEntries, List.countP_cons]
    by_cases ok : x = .ok
    · simp [ok, ih]
    · simp [ok, ih]

/-- Settles O28. -/
theorem faultsListsThePinsNotOk : Obligations.FaultsListsThePinsNotOk := by
  unfold Obligations.FaultsListsThePinsNotOk
  refine ⟨⟨rfl, rfl, rfl⟩, fun sender target tag start s taken => ?_⟩
  obtain ⟨t, hexec, changed, hlink⟩ := exec_query_replyOnly (c := .faults sender target tag [start])
    (q := .faultsFrom start) rfl taken (by simp) rfl rfl
  refine ⟨t, faultList s, hexec, changed, ?_, length_faultEntries _ _ _, hlink⟩
  simpa only [faultList, Nat.zero_add] using faultEntries_eq (colCount s) 0 s.plan.faults

/-! ### IDENTIFY -/

/-- Settles O29. -/
theorem identifyReportsTheSettings : Obligations.IdentifyReportsTheSettings := by
  unfold Obligations.IdentifyReportsTheSettings
  intro sender target tag s c taken settings
  obtain ⟨t, hexec, changed, hlink⟩ := exec_query_replyOnly (c := .identify sender target tag []) (q := .identify) rfl
    taken (by decide) rfl rfl
  refine ⟨t, hexec, changed, hlink.trans ?_⟩
  congr 1
  show ({ tag := tag, outcome := 1, kind := 6, code := 0, data := identifyData (lineBusy s) } : Reply) = _
  have data : identifyData (lineBusy s) = u16 0x0610 ++ [1, c.station, u8 c.firstLine, u8 c.lineCount, u8 c.firstCell,
      u8 c.cellCount, u8 c.tileCount] ++ u16 c.railLimit ++ [u8 c.holdLimit] ++ statusCellBytes c.statusCell ++
      [Source.code c.source] := by
    unfold identifyData
    rw [show (lineBusy s).start.settings = some c from settings]
  rw [data]
  have part : u16 0x0610 = [0x06, 0x10] := by decide
  rw [part]
  rfl

/-! ### Levels and costs -/

/-- A set of pins is empty when it holds none of the 20. -/
theorem pinSet_ne_zero_iff (a : PinSet) : a ≠ 0#20 ↔ ∃ p < 20, a.getLsbD p = true := by
  constructor
  · intro ne
    by_contra none
    push Not at none
    exact ne (BitVec.eq_of_getLsbD_eq fun p hp => by simpa using none p hp)
  · rintro ⟨p, -, hp⟩ rfl
    simp at hp

/-- R69: a WEAK pin among those of a job makes its base level FIRM. -/
theorem baseLevel_eq (hc : colCount s ≤ 20) (r : Nat) (m : Moves) : baseLevel s r m =
    if ∃ p < colCount s, m.struck.getLsbD p = true ∧ faultAt s r p = .weak then .firm else .normal := by
  have weak (p : Nat) : (weakPins s r).getLsbD p = (decide (p < colCount s) && faultAt s r p == .weak) :=
    getLsbD_pinSet _ _ hc p
  have some_weak : m.struck &&& weakPins s r ≠ 0#20 ↔
      ∃ p < colCount s, m.struck.getLsbD p = true ∧ faultAt s r p = .weak := by
    simp only [pinSet_ne_zero_iff, BitVec.getLsbD_and, weak, Bool.and_eq_true, decide_eq_true_iff, beq_iff_eq]
    exact ⟨fun ⟨p, _, hm, hp, hw⟩ => ⟨p, hp, hm, hw⟩, fun ⟨p, hp, hm, hw⟩ => ⟨p, by omega, hm, hp, hw⟩⟩
  unfold baseLevel
  by_cases h : m.struck &&& weakPins s r = 0#20
  · rw [if_pos h, if_neg (mt some_weak.mpr (not_not.mpr h))]
  · rw [if_neg h, if_pos (some_weak.mp h)]

theorem pinCount_pos {a : PinSet} (h : a ≠ 0#20) : 1 ≤ pinCount a := by
  obtain ⟨p, hp, hbit⟩ := (pinSet_ne_zero_iff a).mp h
  exact List.countP_pos_iff.mpr ⟨p, List.mem_range.mpr hp, hbit⟩

/-- Two sets without a common pin hold at most the 20 pins together. -/
theorem pinCount_add_le {a b : PinSet} (disjoint : a &&& b = 0#20) : pinCount a + pinCount b ≤ 20 := by
  have apart (p : Nat) : ¬ (a.getLsbD p = true ∧ b.getLsbD p = true) := by
    have := congrArg (·.getLsbD p) disjoint
    simp only [BitVec.getLsbD_and, BitVec.getLsbD_zero] at this
    simpa using this
  have within : pinCount b ≤ (List.range 20).countP (fun p => !a.getLsbD p) :=
    List.countP_mono_left fun p _ hb => by simpa using fun ha => apart p ⟨ha, hb⟩
  have whole : (List.range 20).length = pinCount a + (List.range 20).countP (fun p => !a.getLsbD p) := by
    simpa [pinCount] using List.length_eq_countP_add_countP (fun p => a.getLsbD p) (l := List.range 20)
  rw [List.length_range] at whole
  omega

theorem factor_bounds (level : Level) : 2 ≤ level.factor ∧ level.factor ≤ 4 := by cases level <;> decide

/-- R70: the quotient needs no rounding, 12 and 8 both being even. -/
theorem strikeCost_eq (m : Moves) (level : Level) :
    strikeCost m level = 40 + (6 * pinCount m.raise + 4 * pinCount m.lower) * level.factor := by
  have double : (12 * pinCount m.raise + 8 * pinCount m.lower) * level.factor =
      2 * ((6 * pinCount m.raise + 4 * pinCount m.lower) * level.factor) := by ring
  rw [strikeCost, double]
  omega

theorem strikeCost_bounds {m : Moves} (level : Level) (disjoint : m.raise &&& m.lower = 0#20)
    (some : m.isEmpty = false) : 48 ≤ strikeCost m level ∧ strikeCost m level ≤ 520 := by
  obtain ⟨two, four⟩ := factor_bounds level
  have most := pinCount_add_le disjoint
  have least : 1 ≤ pinCount m.raise + pinCount m.lower := by
    rcases Decidable.em (m.raise = 0#20) with none | raise
    · have lower : m.lower ≠ 0#20 := fun h => by simp [Moves.isEmpty, none, h] at some
      have := pinCount_pos lower
      omega
    · have := pinCount_pos raise
      omega
  rw [strikeCost_eq]
  constructor
  · have := Nat.mul_le_mul (by omega : 4 ≤ 6 * pinCount m.raise + 4 * pinCount m.lower) two
    omega
  · have := Nat.mul_le_mul (by omega : 6 * pinCount m.raise + 4 * pinCount m.lower ≤ 120) four
    omega

/-- Settles O53. -/
theorem levelsAndCostsOfAStrike : Obligations.LevelsAndCostsOfAStrike := by
  unfold Obligations.LevelsAndCostsOfAStrike
  refine ⟨⟨rfl, rfl, rfl, rfl, fun base => by cases base <;> rfl⟩, fun s r m hc => baseLevel_eq hc r m, ⟨rfl, rfl, rfl⟩,
    by decide, fun m level => ⟨?_, ?_, strikeCost_bounds level⟩⟩
  · rw [strikeCost_eq]
    omega
  · rw [strikeCost_eq, Nat.add_sub_cancel_left]
    ring

end Sys2Proof.Machine
end

section
/-!
The touch guard's events (R142 to R150): the table of guard states, lines that close and open, a strip that fails and the
hold limit.
-/

namespace Sys2Proof.Machine

variable {s t u v : State}

/-! ### One line's guard -/

theorem lineClosed_iff (l : Nat) : lineClosed s l = true ↔
    ∃ g, s.touch.lines[l]? = some g ∧ g.guard ≠ .clear ∧ g.failed = false := by
  unfold lineClosed
  cases s.touch.lines[l]? with
  | none => simp
  | some g => simp [LineGuard.closed, LineGuard.guarded]

theorem changeLine_of_none {l : Nat} (none : s.touch.lines[l]? = none) (f : LineGuard → LineGuard) :
    changeLine l f s = s := by
  unfold changeLine
  rw [List.modify_eq_self (List.getElem?_eq_none_iff.mp none)]
  rfl

theorem lines_changeLine {l : Nat} {g : LineGuard} (line : s.touch.lines[l]? = some g) (f : LineGuard → LineGuard) :
    (changeLine l f s).touch.lines = s.touch.lines.set l (f g) := by
  unfold changeLine
  rw [State.withTouch_touch, List.modify_eq_set_getElem?, line]
  rfl

theorem lines_lineCloses (l : Nat) : (lineCloses l s).touch.lines = s.touch.lines := by
  rw [lineCloses, judgeHold_touch]
  rfl

theorem lines_lineOpens : (lineOpens s).touch.lines = s.touch.lines := quietNotices_lines s

theorem lines_guardEvent (l : Nat) (f : LineGuard → LineGuard) :
    (guardEvent l f s).touch.lines = (changeLine l f s).touch.lines := by
  unfold guardEvent
  dsimp only
  split
  · rfl
  · split
    · exact lines_lineCloses l
    · exact lines_lineOpens

/-- R8: a strip outside the rectangle gives no event. -/
theorem guardEvent_of_none {l : Nat} (none : s.touch.lines[l]? = none) (f : LineGuard → LineGuard) :
    guardEvent l f s = s := by
  have same := changeLine_of_none none f
  unfold guardEvent
  dsimp only
  rw [same, if_pos rfl]

theorem stripFails_of_not_due {l : Nat} (h : presenceDue s l = false) : stripFails l s = s := if_neg (by simp [h])

/-- R143: the arrival filter's expiry by the guard state. -/
theorem arrivalExpires_eq (g : LineGuard) : g.arrivalExpires =
    match g.guard with
    | .arriving => if Timer.due 30 g.arrival = true then { g with guard := .touched, arrival := none } else g
    | .clear => g
    | .touched => g
    | .leaving => g := by
  unfold LineGuard.arrivalExpires arrivalPeriod
  cases g.guard <;> simp

/-- R143: the departure filter's expiry by the guard state. -/
theorem departureExpires_eq (g : LineGuard) : g.departureExpires =
    match g.guard with
    | .leaving => if Timer.due 200 g.departure = true then { g with guard := .clear, departure := none } else g
    | .clear => g
    | .arriving => g
    | .touched => g := by
  unfold LineGuard.departureExpires departurePeriod
  cases g.guard <;> simp

/-- Settles O47: each event sets its line to what R143's table gives, whatever the notices then do. -/
theorem guardStatesFollowTheirTable : Obligations.GuardStatesFollowTheirTable := by
  unfold Obligations.GuardStatesFollowTheirTable
  refine ⟨fun s l => lineClosed_iff l, fun strip c s running none hc => ?_, fun strip g s running line => ?_⟩
  · have guard (f : LineGuard → LineGuard) : whenRunning s (guardEvent strip.val f) = .next s := by
      rw [whenRunning_running running, guardEvent_of_none none]
    rcases hc with rfl | rfl | rfl | rfl | rfl
    · exact guard _
    · exact guard _
    · exact guard _
    · exact guard _
    · show whenRunning s (stripFails strip.val) = _
      rw [whenRunning_running running, stripFails_of_not_due (by simp [presenceDue, none])]
  · have goes {c : Instr} {f : LineGuard → LineGuard} {g' : LineGuard}
        (hc : exec c s = whenRunning s (guardEvent strip.val f)) (hf : f g = g') :
        ∃ t, exec c s = .next t ∧ Changes [.touch, .pipe] s t ∧ t.touch.lines = s.touch.lines.set strip.val g' := by
      refine ⟨guardEvent strip.val f s, by rw [hc, whenRunning_running running],
        (changes_guardEvent _ _ _).mono (by decide), ?_⟩
      rw [lines_guardEvent, lines_changeLine line, hf]
    refine ⟨goes rfl rfl, goes rfl rfl, goes rfl (arrivalExpires_eq g), goes rfl (departureExpires_eq g)⟩

/-! ### Lines that close and open -/

/-- R100: the unfired rows of a closing line, and no others. -/
theorem dropUnfired_line (l : Nat) (slot : Option Slot) :
    dropUnfired (fun r => r / 4 == l) slot = slot.filter (fun x => x.fired || x.row / 4 != l) := by
  cases slot with
  | none => rfl
  | some x =>
    unfold dropUnfired
    cases hf : x.fired <;> by_cases hl : x.row / 4 = l <;> simp [Option.filter, hf, hl]

/-- R145, R100, R149: what a line that closes hands on. -/
theorem lineCloses_spec (l : Nat) :
    (lineCloses l s).pipe = { s.pipe with
      load := s.pipe.load.filter (fun x => x.fired || x.row / 4 != l)
      strike := s.pipe.strike.filter (fun x => x.fired || x.row / 4 != l) } ∧
    (lineCloses l s).touch = { s.touch with holdPhase := (lineCloses l s).touch.holdPhase } ∧
      HoldJudged s (lineCloses l s) := by
  have judged := changes_judgeHold (withdrawLine l s)
  refine ⟨?_, judgeHold_touch _, holdJudged_iff.mpr ?_⟩
  · rw [← dropUnfired_line, ← dropUnfired_line]
    exact judged.pipe
  · have cond : holdCondition (lineCloses l s) = holdCondition (withdrawLine l s) :=
      holdCondition_congr judged.start judged.plan (lines_lineCloses l)
    rw [cond]
    exact judgeHold_phase (withdrawLine l s)

/-- R145: the three ways of a guard event, by whether its line was closed and is closed after it. -/
theorem guardEvent_cases (l : Nat) (f : LineGuard → LineGuard) :
    (lineClosed s l = lineClosed (changeLine l f s) l ∧ guardEvent l f s = changeLine l f s) ∨
    (lineClosed s l = false ∧ lineClosed (changeLine l f s) l = true ∧
      guardEvent l f s = lineCloses l (changeLine l f s)) ∨
    (lineClosed s l = true ∧ lineClosed (changeLine l f s) l = false ∧ guardEvent l f s = lineOpens (changeLine l f s)) := by
  unfold guardEvent
  dsimp only
  cases lineClosed s l <;> cases lineClosed (changeLine l f s) l <;> simp

/-- Settles O48. -/
theorem linesThatCloseOrOpenAreHandedOn : Obligations.LinesThatCloseOrOpenAreHandedOn := by
  unfold Obligations.LinesThatCloseOrOpenAreHandedOn
  intro strip c s running ⟨idleEmpty, _⟩ hc
  have event : ∃ f, exec c s = .next (guardEvent strip.val f s) := by
    rcases hc with rfl | rfl | rfl | rfl
    · exact ⟨_, whenRunning_running running⟩
    · exact ⟨_, whenRunning_running running⟩
    · exact ⟨_, whenRunning_running running⟩
    · exact ⟨_, whenRunning_running running⟩
  obtain ⟨f, hexec⟩ := event
  refine ⟨_, hexec, (changes_guardEvent _ _ _).mono (by decide), ?_⟩
  have after : lineClosed (guardEvent strip.val f s) strip.val = lineClosed (changeLine strip.val f s) strip.val :=
    lineClosed_congr (lines_guardEvent _ _) _
  intro drop
  have changed : s.withTouch { s.touch with lines := (guardEvent strip.val f s).touch.lines } = changeLine strip.val f s := by
    rw [lines_guardEvent]
    rfl
  rw [changed, after]
  rcases guardEvent_cases (s := s) strip.val f with ⟨same, ht⟩ | ⟨before, closed, ht⟩ | ⟨before, opened, ht⟩
  · rw [ht, ← same]
    cases lineClosed s strip.val <;> exact ⟨rfl, rfl⟩
  · rw [before, closed, ht]
    obtain ⟨pipe, touch, judged⟩ := lineCloses_spec (s := changeLine strip.val f s) strip.val
    refine ⟨pipe, ?_, judged⟩
    rw [lines_lineCloses]
    exact touch
  · rw [before, opened, ht]
    exact handedOn_quietNotices idleEmpty

/-! ### A strip that fails -/

/-- R92: the notices leave an IDLE engine's row pipeline started, or no row to start with. -/
theorem HandedOn.started (h : HandedOn s t) (idle : s.pipe.engine = .idle) (on : onTheLink s = true) :
    t.pipe.engine = .running ∨ NoRowEligible t := by
  obtain ⟨looked, -, -⟩ := h
  rw [if_pos ⟨idle, on⟩] at looked
  rcases looked with ⟨-, none⟩ | ⟨r, j, pipe, -⟩
  · exact .inr none
  · exact .inl (by rw [pipe])

theorem HandedOn.pipe_of_busy (h : HandedOn s t) (busy : s.pipe.engine ≠ .idle) : t.pipe = s.pipe := by
  obtain ⟨looked, -, -⟩ := h
  rwa [if_neg fun idle => busy idle.1] at looked

/-- R162: the pattern's work hands on, or leaves the pipeline and the touch guard alone. -/
theorem PatternWorkedOut.pipe_or_handedOn (h : PatternWorkedOut s t) :
    (t.pipe = s.pipe ∧ t.touch = s.touch) ∨ HandedOn s t := by
  obtain ⟨-, -, rest⟩ := h
  split at rest
  · obtain ⟨-, -, pipe, touch, -⟩ := rest
    exact .inl ⟨pipe, touch⟩
  · exact .inr rest.1

theorem PatternWorkedOut.pipe_of_idle (h : PatternWorkedOut s t) (idle : t.pipe.engine = .idle) : t.pipe = s.pipe := by
  rcases h.pipe_or_handedOn with ⟨pipe, -⟩ | handed
  · exact pipe
  · exact handed.pipe_of_idle idle

theorem PatternWorkedOut.guard (h : PatternWorkedOut s t) :
    t.touch.lines = s.touch.lines ∧ t.touch.rotation = s.touch.rotation := by
  rcases h.pipe_or_handedOn with ⟨-, touch⟩ | ⟨-, -, touch⟩ <;> rw [touch] <;> exact ⟨rfl, rfl⟩

/-- R92: an engine that the pattern's work did not leave IDLE was busy or has started. -/
theorem PatternWorkedOut.started (h : PatternWorkedOut s t) (idle : s.pipe.engine = .idle)
    (busy : t.pipe.engine ≠ .idle) : t.pipe.engine = .running := by
  rcases h.pipe_or_handedOn with ⟨pipe, -⟩ | ⟨looked, -, -⟩
  · exact absurd (by rw [pipe, idle]) busy
  · split at looked
    · rcases looked with ⟨pipe, -⟩ | ⟨r, j, pipe, -⟩
      · exact absurd (by rw [pipe, idle]) busy
      · rw [pipe]
    · exact absurd (by rw [looked, idle]) busy

/-- R145: a strip that fails opens its line. -/
theorem lineClosed_failed (l : Nat) {g : LineGuard} (line : s.touch.lines[l]? = some g) (failed : g.failed = true) :
    lineClosed s l = false := by
  simp [lineClosed, line, LineGuard.closed, failed]

/-- Settles O49: the pattern is worked out with the strip FAILED (`v`), and a line that was closed then opens, by the
notices. -/
theorem presenceExpiryFailsTheStrip : Obligations.PresenceExpiryFailsTheStrip := by
  unfold Obligations.PresenceExpiryFailsTheStrip
  intro strip g s running line
  have exec_eq : exec (.presenceTimerExpiry strip) s = .next (stripFails strip.val s) := whenRunning_running running
  have due_eq : presenceDue s strip.val = Timer.due 600000 g.presence := by simp [presenceDue, line, presencePeriod]
  refine ⟨fun notDue => ?_, fun due start slots => ?_⟩
  · rw [exec_eq, stripFails_of_not_due (due_eq.trans notDue)]
  obtain ⟨idleEmpty, -⟩ := slots
  have expired : g.presenceExpires = { g with failed := true, presence := none } := if_pos due
  let s1 := changeLine strip.val LineGuard.presenceExpires s
  have lines : s1.touch.lines = s.touch.lines.set strip.val { g with failed := true, presence := none } := by
    rw [lines_changeLine line, expired]
  have worked : PatternWorkedOut s1 (recomputePattern s1) :=
    patternWorkedOut_recomputePattern (statusRows_lt (start.congr rfl)) idleEmpty
  obtain ⟨guardLines, rotation⟩ := worked.guard
  have fails : stripFails strip.val s =
      if lineClosed s strip.val = true then lineOpens (recomputePattern s1) else recomputePattern s1 :=
    if_pos (due_eq.trans due)
  have handed : HandedOn (recomputePattern s1) (lineOpens (recomputePattern s1)) := by
    refine handedOn_quietNotices fun idle => ?_
    rw [slotsEmpty, worked.pipe_of_idle idle]
    exact idleEmpty (by rw [← idle, worked.pipe_of_idle idle]; rfl)
  have after : (stripFails strip.val s).touch.lines = s1.touch.lines ∧
      (stripFails strip.val s).touch.rotation = s.touch.rotation ∧ PatternRight (stripFails strip.val s) := by
    rw [fails]
    split
    · exact ⟨lines_lineOpens.trans guardLines, by rw [handed.2.2]; exact rotation, (recomputePattern_right s1).quietNotices⟩
    · exact ⟨guardLines, rotation, recomputePattern_right s1⟩
  obtain ⟨afterLines, afterRotation, right⟩ := after
  refine ⟨_, recomputePattern s1, exec_eq, (changes_stripFails _ _).mono (by decide), afterLines.trans lines, ?_,
    afterRotation, right, ?_, ?_, fun touched sound idle on => ?_⟩
  · refine lineClosed_failed (g := { g with failed := true, presence := none }) strip.val ?_ rfl
    obtain ⟨lt, -⟩ := List.getElem?_eq_some_iff.mp line
    rw [afterLines, lines, List.getElem?_set_self lt]
  · rw [afterLines]
    exact worked
  · rw [fails]
    split
    · exact ⟨(changes_lineOpens _).mono (by decide), handed⟩
    · rfl
  · have closed : lineClosed s strip.val = true := (lineClosed_iff _).mpr ⟨g, line, touched, sound⟩
    rw [fails, if_pos closed]
    by_cases still : (recomputePattern s1).pipe.engine = .idle
    · exact handed.started still ((onTheLink_congr (changes_recomputePattern s1).start).trans on)
    · exact .inl (by rw [handed.pipe_of_busy still, worked.started idle still])

/-! ### The hold limit -/

theorem lineHeld_iff (l : Nat) : lineHeld s l = true ↔
    lineClosed s l = true ∧ ∃ r, r / 4 = l ∧ (jobAt s r).isSome = true := by
  simp only [lineHeld, Bool.and_eq_true, Bool.or_eq_true]
  refine and_congr_right fun _ => ⟨?_, ?_⟩
  · rintro (((h | h) | h) | h)
    · exact ⟨_, by omega, h⟩
    · exact ⟨_, by omega, h⟩
    · exact ⟨_, by omega, h⟩
    · exact ⟨_, by omega, h⟩
  · rintro ⟨r, hr, h⟩
    have row : r = 4 * l ∨ r = 4 * l + 1 ∨ r = 4 * l + 2 ∨ r = 4 * l + 3 := by omega
    rcases row with rfl | rfl | rfl | rfl
    · exact .inl (.inl (.inl h))
    · exact .inl (.inl (.inr h))
    · exact .inl (.inr h)
    · exact .inr h

theorem holdCondition_iff : holdCondition s = true ↔ ∃ l < lineCount s, lineHeld s l = true := by
  simp [holdCondition]

/-- R161: a pattern that is right already stays, and nothing follows. -/
theorem recomputePattern_of_right (h : PatternRight s) : recomputePattern s = s := if_pos h.symm

/-- R58: the page that a hold limit's report makes HELD, before the pattern is worked out. -/
def heldPage (mask : Nat) (s : State) : State :=
  announce s.page.turned .held mask (s.withPage { s.page with outcome := .held, detail := mask, heldMark := true })

/-- R159, R160: HELD asks for no other pattern than a WORKING page without an outcome. -/
theorem heldPage_right {mask : Nat} (right : PatternRight s) (working : s.page.state = .working)
    (outcome : s.page.outcome = .none) : PatternRight (heldPage mask s) := by
  have c : Changes [.page, .link, .draws] s (heldPage mask s) := (changes_withPage _ _).comp (changes_announce _ _ _ _)
  have page : (heldPage mask s).page = _ := (changes_enqueueAnnounce _ _).page
  have lineUp : (heldPage mask s).link.lineUp = s.link.lineUp := (aside_enqueueAnnounce .settled).lineUp
  have notReady {x : State} (h : x.page.state = .working) : pageReady x = false :=
    Bool.eq_false_iff.mpr fun ready => by
      obtain ⟨c, -, settled, -⟩ := pageReady_iff.mp ready
      simp [h] at settled
  have attends : attention (heldPage mask s) = attention s := by
    simp only [attention, page, outcome, c.rail, c.touch, lineUp]
    rfl
  unfold PatternRight
  rw [c.pattern, right]
  unfold patternOf
  rw [notReady working, notReady (x := heldPage mask s) (by rw [page]; exact working), attends, page]
  rfl

/-- Settles O50: a page made HELD is announced, and the pattern, which HELD leaves right, with all that hangs on it
stays. -/
theorem holdExpiryReportsTheHeldLines : Obligations.HoldExpiryReportsTheHeldLines := by
  unfold Obligations.HoldExpiryReportsTheHeldLines
  refine ⟨fun s => ⟨fun l => lineHeld_iff l, holdCondition_iff⟩, fun s running => ?_⟩
  have exec_eq : exec .holdLimitExpiry s = .next (holdExpires s) := whenRunning_running running
  refine ⟨fun notDue => ?_, fun phase due => ?_⟩
  · have same : holdExpires s = s :=
      if_neg fun ⟨phase, due⟩ => notDue.elim (absurd phase) (Nat.not_lt.mpr due)
    rw [exec_eq, same]
  let s1 := s.withTouch { s.touch with holdPhase := .expired, holdTime := holdLimitMs s }
  have expires : holdExpires s = holdReport (heldMask s) s1 := if_pos ⟨phase, due⟩
  refine ⟨_, heldMask s, exec_eq, (changes_holdExpires s).mono (by decide), testBit_lineMask _ _,
    fun working unmarked right pageState => ?_, fun disregarded => ?_⟩
  · have outcome := pageState.2 working unmarked
    have reported : holdExpires s = heldPage (heldMask s) s1 := by
      rw [expires]
      exact (if_pos ⟨working, unmarked⟩).trans (recomputePattern_of_right (heldPage_right right.1 working outcome))
    have c : Changes [.page, .link, .draws] s1 (heldPage (heldMask s) s1) :=
      (changes_withPage _ _).comp (changes_announce _ _ _ _)
    rw [reported]
    exact ⟨(changes_enqueueAnnounce _ _).page, queued_enqueueAnnounce _ _, enqueueAnnounce_link_congr _ rfl rfl rfl,
      c.pattern, c.plan, c.pipe, c.touch⟩
  · have ignored : holdExpires s = s1 :=
      expires.trans (if_neg fun ⟨working, unmarked⟩ => disregarded.elim (absurd working) (by rw [show s.page.heldMark = false from unmarked]; decide))
    rw [ignored]
    exact ⟨changes_withTouch _ _, rfl⟩

end Sys2Proof.Machine
end

section
/-!
The diff pin by pin (R12, R68), the count of stuck pins (R57) and the recompute after a sense (R76 to R79).
-/

namespace Sys2Proof.Machine

variable {s : State}

/-! ### Places of an image -/

/-- R9, R10: a pin's cell lies in the image exactly where its tile row is in use. -/
theorem cellIndex_lt_iff {lines cc r p : Nat} (hp : p < 2 * cc) :
    r / 4 * cc + p / 2 < lines * cc ↔ r < 4 * lines := by
  constructor
  · intro h
    by_contra high
    have := Nat.mul_le_mul_right cc (by omega : lines ≤ r / 4)
    omega
  · exact fun h => cellIndex_lt (by omega) (by omega)

theorem cellIndex_inj {cc a b l k : Nat} (hb : b < cc) (hk : k < cc) : a * cc + b = l * cc + k ↔ a = l ∧ b = k := by
  constructor
  · intro h
    have div {x y : Nat} (hy : y < cc) : (x * cc + y) / cc = x := by
      rw [Nat.mul_comm, Nat.mul_add_div (by omega), Nat.div_eq_of_lt hy, Nat.add_zero]
    have row : a = l := (div hb).symm.trans ((congrArg (· / cc) h).trans (div hk))
    subst row
    exact ⟨rfl, by omega⟩
  · rintro ⟨rfl, rfl⟩
    rfl

/-- R9: beyond the image every pin is down. -/
theorem pinUp_out_of_image {img : Image} {cc lines r p : Nat} (size : img.length = lines * cc) (hp : p < 2 * cc)
    (hr : ¬ r < 4 * lines) : pinUp img cc r p = false := by
  have out : img.length ≤ r / 4 * cc + p / 2 := by
    rw [size]
    exact Nat.le_of_not_lt (mt (cellIndex_lt_iff hp).mp hr)
  unfold pinUp cellAt
  rw [List.getD_eq_getElem?_getD, List.getElem?_eq_none out]
  exact BitVec.getLsbD_zero

/-- R12: the position that TARGET_eff gives a pin: the pattern's in the status cell, TARGET's elsewhere. -/
def targetPin (s : State) (r p : Nat) : Bool :=
  if statusCell s = some (r / 4, p / 2) then (Pattern.byte s.pattern).getLsbD (dotBit (r % 4) (p % 2))
  else pinUp s.page.target (cellCount s) r p

theorem pinUp_targetEff (start : StartOk s) (size : s.page.target.length = lineCount s * cellCount s) {r p : Nat}
    (hr : r < rowCount s) (hp : p < colCount s) : pinUp (targetEff s) (cellCount s) r p = targetPin s r p := by
  have inside : r / 4 * cellCount s + p / 2 < s.page.target.length := by
    rw [size]
    exact (cellIndex_lt_iff hp).mpr hr
  unfold targetEff targetPin
  cases cell : statusCell s with
  | none => rfl
  | some lk =>
    obtain ⟨l, k⟩ := lk
    have bounds : k < cellCount s := by
      obtain ⟨-, -, inRange⟩ := start
      cases hc : s.start.settings with
      | none => simp [statusCell, hc] at cell
      | some c =>
        obtain ⟨-, -, -, -, -, -, -, -, cellOk⟩ := inRange c hc
        have := (cellOk l k (by simpa [statusCell, hc] using cell)).2
        simpa [cellCount, hc] using this
    have half : p / 2 < cellCount s := by
      unfold colCount at hp
      omega
    unfold pinUp cellAt
    simp only [List.getD_eq_getElem?_getD, List.getElem?_set]
    by_cases here : (l, k) = (r / 4, p / 2)
    · have hl : l = r / 4 := congrArg Prod.fst here
      have hk : k = p / 2 := congrArg Prod.snd here
      subst hl hk
      simp [inside]
    · have apart : l * cellCount s + k ≠ r / 4 * cellCount s + p / 2 := by
        rw [Ne, cellIndex_inj bounds half]
        rintro ⟨rfl, rfl⟩
        exact here rfl
      rw [if_neg apart, if_neg (by simpa using here)]

/-! ### The diff and the count of stuck pins, pin by pin -/

theorem isStuck_eq (x : PinFault) : x.isStuck = (x == .stuckUp || x == .stuckDown) := by cases x <;> rfl

theorem getLsbD_targetRow (start : StartOk s) (sizes : SizesOk s) (r p : Nat) :
    (targetRow s r).getLsbD p =
      (decide (r < rowCount s) && decide (p < colCount s) && targetPin s r p) := by
  obtain ⟨-, size, -⟩ := sizes
  have row : (targetRow s r).getLsbD p = (decide (p < colCount s) && pinUp (targetEff s) (cellCount s) r p) :=
    getLsbD_imageRow _ _ _ _ start.cells_le
  rw [row]
  by_cases hp : p < colCount s
  · by_cases hr : r < rowCount s
    · rw [pinUp_targetEff start size hr hp]
      simp [hp, hr]
    · have effSize : (targetEff s).length = lineCount s * cellCount s := by
        unfold targetEff
        split
        · exact size
        · rw [List.length_set, size]
      rw [pinUp_out_of_image effSize hp hr]
      simp [hr]
  · simp [hp]

theorem getLsbD_shownRow (start : StartOk s) (sizes : SizesOk s) (r p : Nat) :
    (shownRow s r).getLsbD p =
      (decide (r < rowCount s) && decide (p < colCount s) && pinUp s.shown (cellCount s) r p) := by
  obtain ⟨-, -, size, -⟩ := sizes
  have row : (shownRow s r).getLsbD p = (decide (p < colCount s) && pinUp s.shown (cellCount s) r p) :=
    getLsbD_imageRow _ _ _ _ start.cells_le
  rw [row]
  by_cases hp : p < colCount s
  · by_cases hr : r < rowCount s
    · simp [hp, hr]
    · rw [pinUp_out_of_image size hp hr]
      simp
  · simp [hp]

/-- A set of pin columns counted pin by pin. -/
theorem pinCount_of_columns {a : PinSet} {n : Nat} {q : Nat → Bool} (hn : n ≤ 20)
    (h : ∀ p, a.getLsbD p = (decide (p < n) && q p)) : pinCount a = (List.range n).countP q := by
  have whole : List.range 20 = List.range n ++ (List.range (20 - n)).map (n + ·) := by
    rw [← List.range_add, Nat.add_sub_cancel' hn]
  have outside : ((List.range (20 - n)).map (n + ·)).countP (fun p => a.getLsbD p) = 0 := by
    rw [List.countP_eq_zero]
    intro p hp
    obtain ⟨i, -, rfl⟩ := List.mem_map.mp hp
    simp [h]
  rw [pinCount, whole, List.countP_append, outside, Nat.add_zero]
  exact List.countP_congr fun p hp => by simp [h, List.mem_range.mp hp]

theorem pinCount_stuckOffTarget (start : StartOk s) (sizes : SizesOk s) {r : Nat} (hr : r < rowCount s) :
    pinCount (stuckOffTarget s r) = (List.range (colCount s)).countP (fun p =>
      (faultAt s r p).isStuck && (pinUp s.shown (cellCount s) r p != targetPin s r p)) := by
  have cols : colCount s ≤ 20 := by
    have := start.cells_le
    unfold colCount
    omega
  refine pinCount_of_columns cols fun p => ?_
  rw [stuckOffTarget, BitVec.getLsbD_and, BitVec.getLsbD_xor, getLsbD_stuckPins start.cells_le,
    getLsbD_shownRow start sizes, getLsbD_targetRow start sizes]
  by_cases hp : p < colCount s
  · simp [hr, hp]
  · simp [hp]

/-- R68: the diff pin by pin. -/
theorem getLsbD_diff (start : StartOk s) (sizes : SizesOk s) (r p : Nat) :
    (diff s r).raise.getLsbD p = (decide (r < rowCount s) && decide (p < colCount s) && !(faultAt s r p).isStuck &&
      !pinUp s.shown (cellCount s) r p && targetPin s r p) ∧
    (diff s r).lower.getLsbD p = (decide (r < rowCount s) && decide (p < colCount s) && !(faultAt s r p).isStuck &&
      pinUp s.shown (cellCount s) r p && !targetPin s r p) := by
  simp only [diff, BitVec.getLsbD_and, BitVec.getLsbD_not, getLsbD_shownRow start sizes, getLsbD_targetRow start sizes,
    getLsbD_stuckPins start.cells_le]
  by_cases hp : p < colCount s
  · have inside : p < 20 := by
      have := start.cells_le
      unfold colCount at hp
      omega
    by_cases hr : r < rowCount s
    · simp only [hr, hp, inside, decide_true, Bool.true_and]
      generalize (faultAt s r p).isStuck = x, pinUp s.shown (cellCount s) r p = y, targetPin s r p = z
      revert x y z
      decide
    · simp [hr]
  · simp [hp]

theorem pinSubset_iff (a b : PinSet) :
    pinSubset a b = true ↔ ∀ p, a.getLsbD p = true → b.getLsbD p = true := by
  unfold pinSubset
  rw [beq_iff_eq]
  constructor
  · intro h p ha
    have hp : p < 20 := by
      by_contra high
      simp [BitVec.getLsbD_of_ge a p (by omega)] at ha
    have := congrArg (·.getLsbD p) h
    simpa [hp, ha] using this
  · intro h
    refine BitVec.eq_of_getLsbD_eq fun p hp => ?_
    cases ha : a.getLsbD p with
    | false => simp [ha]
    | true => simp [ha, h p ha]

theorem within_iff (a b : Moves) : a.within b = true ↔
    ∀ p, (a.raise.getLsbD p = true → b.raise.getLsbD p = true) ∧
      (a.lower.getLsbD p = true → b.lower.getLsbD p = true) := by
  rw [Moves.within, Bool.and_eq_true, pinSubset_iff, pinSubset_iff, forall_and]

theorem isEmpty_iff (a : Moves) : a.isEmpty = true ↔ ∀ p, a.raise.getLsbD p = false ∧ a.lower.getLsbD p = false := by
  rw [Moves.isEmpty, Bool.and_eq_true, beq_iff_eq, beq_iff_eq]
  constructor
  · rintro ⟨raise, lower⟩ p
    simp [raise, lower]
  · intro h
    exact ⟨BitVec.eq_of_getLsbD_eq fun p _ => by simp [(h p).1], BitVec.eq_of_getLsbD_eq fun p _ => by simp [(h p).2]⟩

/-! ### The marks of a judged strike -/

theorem pinSet_congr {n : Nat} {f g : Nat → Bool} (h : ∀ p < n, f p = g p) : pinSet n f = pinSet n g := by
  induction n with
  | zero => rfl
  | succ n ih => rw [pinSet, pinSet, ih fun p hp => h p (Nat.lt_succ_of_lt hp), h n (Nat.lt_succ_self n)]

/-- R78: a pin that moved home becomes WEAK only from OK, so no mark makes or unmakes a STUCK pin. -/
theorem stuckPins_markWeak (r r' : Nat) (pins : PinSet) : stuckPins (markWeak r pins s) r' = stuckPins s r' := by
  refine pinSet_congr fun p hp => ?_
  have mark := faultAt_changeFaults (s := s) (r := r) (fun p x => if pins.getLsbD p && x == .ok then .weak else x) r' hp
  rw [show faultAt (markWeak r pins s) r' p = _ from mark]
  split
  · split
    · rename_i marked
      have ok : faultAt s r' p = .ok := by simpa using (Bool.and_eq_true_iff.mp marked).2
      rw [ok]
      rfl
    · rfl
  · rfl

theorem diff_markWeak (r r' : Nat) (pins : PinSet) : diff (markWeak r pins s) r' = diff s r' := by
  have target : targetRow (markWeak r pins s) r' = targetRow s r' := rfl
  have shown : shownRow (markWeak r pins s) r' = shownRow s r' := rfl
  rw [diff, diff, stuckPins_markWeak, target, shown]

/-- R9: a pin of the rectangle has its place in the fault map. -/
theorem faultIndex_lt (sizes : SizesOk s) {r p : Nat} (hr : r < rowCount s) (hp : p < colCount s) :
    r * colCount s + p < s.plan.faults.length := by
  obtain ⟨-, -, -, size, -⟩ := sizes
  rw [size]
  exact cellIndex_lt hr hp

theorem faultAt_markWeak (sizes : SizesOk s) (r : Nat) (pins : PinSet) {r' p : Nat} (hr : r' < rowCount s)
    (hp : p < colCount s) : faultAt (markWeak r pins s) r' p =
      if r' = r ∧ pins.getLsbD p = true ∧ faultAt s r' p = .ok then .weak else faultAt s r' p := by
  unfold markWeak
  rw [faultAt_changeFaults _ _ hp]
  by_cases row : r' = r
  · rw [if_pos ⟨row, faultIndex_lt sizes hr hp⟩]
    simp [row]
  · rw [if_neg fun h => row h.1, if_neg fun h => row h.1]

theorem sizesOk_markWeak (sizes : SizesOk s) (r : Nat) (pins : PinSet) : SizesOk (markWeak r pins s) := by
  obtain ⟨staging, target, shown, faults, lines⟩ := sizes
  exact ⟨staging, target, shown, List.length_mapIdx.trans faults, lines⟩

theorem faultAt_markStuck (sizes : SizesOk s) (r : Nat) (m : Moves) {r' p : Nat} (hr : r' < rowCount s)
    (hp : p < colCount s) : faultAt (markStuck r m s) r' p =
      if r' = r then (if m.raise.getLsbD p = true then .stuckDown else if m.lower.getLsbD p = true then .stuckUp
        else faultAt s r' p) else faultAt s r' p := by
  unfold markStuck
  rw [faultAt_changeFaults _ _ hp]
  by_cases row : r' = r
  · rw [if_pos ⟨row, faultIndex_lt sizes hr hp⟩, if_pos row]
  · rw [if_neg fun h => row h.1, if_neg row]

/-- R78: the pins of a repeated strike that moved home, pin by pin. -/
theorem getLsbD_movedHome (r : Nat) (m : Moves) {attempt : Nat} (h1 : 1 ≤ attempt) (h3 : attempt ≤ 3) (p : Nat) :
    (movedHome s r m attempt).getLsbD p = true ↔ attempt ≠ 1 ∧
      ((m.raise.getLsbD p = true ∧ (shownRow s r).getLsbD p = true ∧ (targetRow s r).getLsbD p = true) ∨
        (m.lower.getLsbD p = true ∧ (shownRow s r).getLsbD p = false ∧ (targetRow s r).getLsbD p = false)) := by
  have repeated : (attempt = 2 ∨ attempt = 3) ↔ attempt ≠ 1 := by omega
  unfold movedHome
  simp only [repeated]
  by_cases first : attempt = 1
  · simp [first]
  · rw [if_pos first]
    by_cases hp : p < 20
    · simp [hp, first, and_assoc]
    · simp [BitVec.getLsbD_of_ge m.raise p (by omega), BitVec.getLsbD_of_ge m.lower p (by omega), hp]

/-! ### The recompute -/

/-- R79, R65: a judged row's job and fault map, from the diff and the strike's attempt: `u` is the state with the marks
of R78 made. -/
theorem recomputeJob_cases (u : State) (r : Nat) (m : Moves) {attempt : Nat} (h1 : 1 ≤ attempt) (h3 : attempt ≤ 3) :
    ((diff u r).isEmpty = true ∧ recomputeJob r m attempt u = removeJob r u) ∨
    ((diff u r).isEmpty = false ∧ (diff u r).within m = true ∧ attempt = 3 ∧
      recomputeJob r m attempt u = removeJob r (markStuck r (diff u r) u)) ∨
    ((diff u r).isEmpty = false ∧ (diff u r).within m = true ∧ attempt ≠ 3 ∧
      recomputeJob r m attempt u = writeJob r (diff u r) (attempt + 1) u) ∨
    ((diff u r).isEmpty = false ∧ (diff u r).within m = false ∧
      recomputeJob r m attempt u = writeJob r (diff u r) 1 u) := by
  unfold recomputeJob
  dsimp only
  cases (diff u r).isEmpty with
  | true => exact .inl ⟨rfl, rfl⟩
  | false =>
    cases (diff u r).within m with
    | false => exact .inr (.inr (.inr ⟨rfl, rfl, rfl⟩))
    | true =>
      by_cases third : attempt = 3
      · exact .inr (.inl ⟨rfl, rfl, third, by subst third; rfl⟩)
      · exact .inr (.inr (.inl ⟨rfl, rfl, third, if_pos (by omega : attempt = 1 ∨ attempt = 2)⟩))

theorem jobAt_writeJob_same {r : Nat} (hr : r < 24) (m : Moves) (a : Nat) :
    jobAt (writeJob r m a s) r = some { moves := m, attempt := a, level := levelAt (baseLevel s r m) a } := by
  rw [jobAt_writeJob, if_pos ⟨rfl, hr⟩]

theorem jobAt_writeJob_other {r r' : Nat} (h : r' ≠ r) (m : Moves) (a : Nat) :
    jobAt (writeJob r m a s) r' = jobAt s r' := by
  rw [jobAt_writeJob, if_neg fun e => h e.1.symm]

theorem jobAt_removeJob_other {r r' : Nat} (h : r' ≠ r) : jobAt (removeJob r s) r' = jobAt s r' := by
  rw [jobAt_removeJob, if_neg (Ne.symm h)]

theorem jobAt_removeJob_same {r : Nat} : jobAt (removeJob r s) r = none := by rw [jobAt_removeJob, if_pos rfl]

theorem faults_writeJob (r : Nat) (m : Moves) (a : Nat) : (writeJob r m a s).plan.faults = s.plan.faults := rfl

theorem faults_removeJob (r : Nat) : (removeJob r s).plan.faults = s.plan.faults := rfl

/-- R77: the voided recompute. -/
theorem recomputeVoided_spec {r : Nat} (hr : r < 24) (m : Moves) (attempt : Nat) :
    (recomputeVoided r m attempt s).plan.faults = s.plan.faults ∧
    (∀ r', r' ≠ r → jobAt (recomputeVoided r m attempt s) r' = jobAt s r') ∧
    jobAt (recomputeVoided r m attempt s) r = if (diff s r).isEmpty then none
      else
        let a := if (diff s r).within m then attempt else 1
        some { moves := diff s r, attempt := a, level := levelAt (baseLevel s r (diff s r)) a } := by
  unfold recomputeVoided
  dsimp only
  cases (diff s r).isEmpty with
  | true => exact ⟨rfl, fun r' h => jobAt_removeJob_other h, jobAt_removeJob_same⟩
  | false =>
    cases (diff s r).within m with
    | true => exact ⟨rfl, fun r' h => jobAt_writeJob_other h _ _, jobAt_writeJob_same hr _ _⟩
    | false => exact ⟨rfl, fun r' h => jobAt_writeJob_other h _ _, jobAt_writeJob_same hr _ _⟩

/-- R79: the row is given up: its third strike has left some of its pins off their targets, and no other. -/
abbrev GivenUp (s : State) (r : Nat) (m : Moves) (attempt : Nat) : Prop :=
  (diff s r).isEmpty = false ∧ (diff s r).within m = true ∧ attempt = 3

/-- R78: the pin was struck at attempt 2 or 3 and is where it should be. -/
abbrev MovedHome (s : State) (r : Nat) (m : Moves) (attempt p : Nat) : Prop :=
  attempt ≠ 1 ∧
    ((m.raise.getLsbD p = true ∧ (shownRow s r).getLsbD p = true ∧ (targetRow s r).getLsbD p = true) ∨
      (m.lower.getLsbD p = true ∧ (shownRow s r).getLsbD p = false ∧ (targetRow s r).getLsbD p = false))

/-- R79: the pins that a judged strike gives up become STUCK. -/
theorem faultAt_recomputeJob (sizes : SizesOk s) (r : Nat) (m : Moves) {attempt : Nat} (h1 : 1 ≤ attempt)
    (h3 : attempt ≤ 3) {r' p : Nat} (hr : r' < rowCount s) (hp : p < colCount s) :
    faultAt (recomputeJob r m attempt s) r' p =
      if r' ≠ r then faultAt s r' p
      else if GivenUp s r m attempt ∧ (diff s r).raise.getLsbD p = true then .stuckDown
      else if GivenUp s r m attempt ∧ (diff s r).lower.getLsbD p = true then .stuckUp
      else faultAt s r' p := by
  have kept {t : State} (eq : recomputeJob r m attempt s = t) (same : faultAt t r' p = faultAt s r' p)
      (not : ¬ GivenUp s r m attempt) : faultAt (recomputeJob r m attempt s) r' p =
        if r' ≠ r then faultAt s r' p
        else if GivenUp s r m attempt ∧ (diff s r).raise.getLsbD p = true then .stuckDown
        else if GivenUp s r m attempt ∧ (diff s r).lower.getLsbD p = true then .stuckUp
        else faultAt s r' p := by
    simp only [eq, same, not, false_and, if_false, ite_self]
  rcases recomputeJob_cases s r m h1 h3 with ⟨empty, eq⟩ | ⟨some, within, third, eq⟩ | ⟨-, -, early, eq⟩ |
    ⟨-, beyond, eq⟩
  · exact kept eq rfl (by simp [GivenUp, empty])
  · subst third
    have given : GivenUp s r m 3 := ⟨some, within, rfl⟩
    have stuck : faultAt (recomputeJob r m 3 s) r' p = faultAt (markStuck r (diff s r) s) r' p := by
      rw [eq]
      rfl
    rw [stuck, faultAt_markStuck sizes r _ hr hp]
    simp only [eq_true given, true_and, ne_eq, ite_not]
  · exact kept eq rfl (by simp [GivenUp, early])
  · exact kept eq rfl (by simp [GivenUp, beyond])

/-- R79, R65: the job that a judged strike leaves its row, at the level its pins have by then. -/
theorem jobAt_recomputeJob {r : Nat} (hr : r < 24) (m : Moves) {attempt : Nat} (h1 : 1 ≤ attempt) (h3 : attempt ≤ 3) :
    (∀ r', r' ≠ r → jobAt (recomputeJob r m attempt s) r' = jobAt s r') ∧
    jobAt (recomputeJob r m attempt s) r =
      if (diff s r).isEmpty then none
      else if (diff s r).within m then
        if attempt = 3 then none
        else some { moves := diff s r, attempt := attempt + 1
                    level := levelAt (baseLevel (recomputeJob r m attempt s) r (diff s r)) (attempt + 1) }
      else some { moves := diff s r, attempt := 1
                  level := baseLevel (recomputeJob r m attempt s) r (diff s r) } := by
  rcases recomputeJob_cases s r m h1 h3 with ⟨empty, eq⟩ | ⟨some, within, third, eq⟩ | ⟨some, within, early, eq⟩ |
    ⟨some, beyond, eq⟩
  · rw [eq, empty, jobAt_removeJob_same]
    exact ⟨fun r' h => jobAt_removeJob_other h, rfl⟩
  · rw [eq, jobAt_removeJob_same, some, within, if_pos third]
    exact ⟨fun r' h => jobAt_removeJob_other h, rfl⟩
  · rw [eq, jobAt_writeJob_same hr, some, within, if_neg early]
    exact ⟨fun r' h => jobAt_writeJob_other h _ _, rfl⟩
  · rw [eq, jobAt_writeJob_same hr, some, beyond]
    exact ⟨fun r' h => jobAt_writeJob_other h _ _, rfl⟩

/-- Settles O52: the diff through its rows' pins; the recompute by its cases, on the state with the marks of R78 made,
which the diff does not see. -/
theorem recomputeJudgesTheStrike : Obligations.RecomputeJudgesTheStrike := by
  unfold Obligations.RecomputeJudgesTheStrike
  refine ⟨fun s start sizes => ?_, fun a b => ⟨within_iff a b, isEmpty_iff a⟩,
    fun r m attempt s hr sizes rows h1 h3 => ⟨?_, ?_⟩⟩
  · intro up target fault stuck
    have stuckAt : (fun r p => (faultAt s r p).isStuck) = stuck := funext fun r => funext fun p => isStuck_eq _
    constructor
    · rw [← stuckAt]
      exact fun r p => getLsbD_diff start sizes r p
    · rw [stuckOffCount, ← stuckAt]
      exact congrArg _ (List.map_congr_left fun r hr => pinCount_stuckOffTarget start sizes (List.mem_range.mp hr))
  · obtain ⟨faults, others, job⟩ := recomputeVoided_spec (s := s) (by omega : r < 24) m attempt
    exact ⟨_, rfl, changes_recomputeRow _ _ _ _ _, faults, others, job⟩
  · refine ⟨_, rfl, changes_recomputeRow _ _ _ _ _, ?_⟩
    have hdiff : diff (markWeak r (movedHome s r m attempt) s) r = diff s r := diff_markWeak _ _ _
    have marked {r' p : Nat} (hr' : r' < rowCount s) (hp : p < colCount s) :
        faultAt (markWeak r (movedHome s r m attempt) s) r' p =
          if r' = r ∧ MovedHome s r m attempt p ∧ faultAt s r' p = .ok then .weak else faultAt s r' p := by
      rw [faultAt_markWeak sizes r _ hr' hp]
      simp only [getLsbD_movedHome r m h1 h3]
    obtain ⟨others, job⟩ := jobAt_recomputeJob (s := markWeak r (movedHome s r m attempt) s) (by omega : r < 24) m h1 h3
    rw [hdiff] at job
    refine ⟨others, fun r' p hr' hp => ?_, job⟩
    have stuck := faultAt_recomputeJob (sizesOk_markWeak sizes r (movedHome s r m attempt)) r m h1 h3 hr' hp
    simp only [GivenUp, hdiff, marked hr' hp] at stuck
    refine stuck.trans ?_
    by_cases row : r' = r
    · subst row
      simp only [true_and, ne_eq, not_true_eq_false, if_false]
    · rw [if_pos row, if_neg fun h => row h.1]
      exact (if_pos row).symm

end Sys2Proof.Machine
end

section
/-!
The notices that end a plan operation (R66), with the settle they may bring (R56, R57) and the pattern worked out after it
(R162); and the drift scan (R152, R153).
-/

namespace Sys2Proof.Machine

variable {s t u x : State}

/-! ### The settle -/

/-- R57, R162: a page has settled in a state `u` with an IDLE engine and no job: the pattern is worked out again, and
where it changes the status rows start from no job, with their notices. -/
structure Resettled (u t : State) : Prop where
  changes : Changes [.pattern, .plan, .pipe, .touch] (settledAndAnnounced u) t
  faults : t.plan.faults = u.plan.faults
  pattern : PatternRight t
  jobs : ∀ r, jobAt t r = if r ∈ statusRows u ∧ t.pattern ≠ u.pattern then freshJob t r else none
  handed : (t.plan = u.plan ∧ t.pipe = u.pipe ∧ t.touch = u.touch) ∨ HandedOn u t

theorem resettled_settlePage (hlt : ∀ r ∈ statusRows u, r < 24) (hempty : slotsEmpty u = true)
    (noJob : ∀ r, jobAt u r = none) : Resettled u (settlePage u) := by
  have c := changes_settledAndAnnounced (s := u)
  have rows : statusRows (settledAndAnnounced u) = statusRows u := statusRows_congr c.start
  have unplanned (r : Nat) : jobAt (settledAndAnnounced u) r = none := (jobAt_congr c.plan r).trans (noJob r)
  rw [settlePage_eq]
  by_cases same : patternOf (settledAndAnnounced u) = (settledAndAnnounced u).pattern
  · rw [recomputePatternWith, if_pos same]
    exact ⟨.refl _ _, by rw [c.plan], same.symm, fun r => by rw [unplanned, if_neg fun h => h.2 c.pattern],
      .inl ⟨c.plan, c.pipe, c.touch⟩⟩
  · by_cases none : statusRows u = []
    · rw [recomputePatternWith, if_neg same, if_pos (rows.trans none)]
      refine ⟨(changes_setPattern _).mono (by decide), by rw [← c.plan]; rfl, rfl, fun r => ?_,
        .inl ⟨c.plan, c.pipe, c.touch⟩⟩
      rw [if_neg fun h => by simp [none] at h]
      exact unplanned r
    · have again := statusRefreshed (s := settledAndAnnounced u) (by rwa [rows]) (fun _ => by rwa [slotsEmpty, c.pipe])
      have eq := recomputePatternWith_refreshes quietNotices (s := settledAndAnnounced u)
        (not_or.mpr ⟨same, by rwa [rows]⟩)
      have right : PatternRight (recomputePatternWith quietNotices (settledAndAnnounced u)) :=
        recomputePatternWith_right _ fun _ h => h.quietNotices
      rw [eq] at right ⊢
      generalize quietNotices (refreshRows (statusRows (settledAndAnnounced u)) (setPattern (settledAndAnnounced u))) = t
        at again right
      refine ⟨again.changes, by rw [again.faults, c.plan], right, fun r => ?_,
        .inr (again.handedOn.congr c.start.symm c.pipe.symm c.touch.symm rfl rfl rfl rfl)⟩
      rw [again.jobs, rows, unplanned, refreshedJob_of_no_job (unplanned r), again.pattern]
      simp [show patternOf (settledAndAnnounced u) ≠ u.pattern from fun h => same (h.trans c.pattern.symm)]

/-- R55, R57: the settle's page, announcement and detail. -/
theorem Resettled.settles (h : Resettled u t) (working : u.page.state = .working) : Settles u.pattern u t := by
  have changed := changes_settledAndAnnounced.comp h.changes (ds := workBlocks)
  have page : t.page = _ := h.changes.page.trans settledAndAnnounced_page
  refine ⟨stuckOffCount u, ?_, working, page, h.changes.link.trans settledAndAnnounced_link,
    h.changes.draws.trans settledAndAnnounced_draws⟩
  exact (stuckOffCount_congr (t := t.withPattern u.pattern) changed.start (by rw [State.withPattern_page, page])
    changed.shown rfl h.faults).symm

/-- The notices of a settle add nothing to those already given from `s`. -/
theorem Resettled.handedOn (h : Resettled u t) (given : HandedOn s u) (start : u.start = s.start)
    (idle : u.pipe.engine = .idle) : HandedOn s t := by
  have start' : t.start = u.start := h.changes.start.trans changes_settledAndAnnounced.start
  rcases h.handed with ⟨plan, pipe, touch⟩ | handed
  · exact given.congr rfl rfl rfl start' pipe touch plan
  · exact given.trans_of_idle handed idle start

theorem Settles.congr {p : Pattern} (h : Settles p s t) (hstart : u.start = s.start) (hpage : u.page = s.page)
    (hlink : u.link = s.link) (hdraws : u.draws = s.draws) : Settles p u t := by
  obtain ⟨n, count, working, page, link, draws⟩ := h
  exact ⟨n, count, by rw [hpage]; exact working, by rw [hpage]; exact page,
    link.trans (enqueueAnnounce_link_congr _ hstart hlink hdraws).symm,
    draws.trans (enqueueAnnounce_draws_congr _ hstart hlink hdraws).symm⟩

theorem NotSettled.congr (h : NotSettled s t) (hpage : u.page = s.page) (hlink : u.link = s.link)
    (hdraws : u.draws = s.draws) : NotSettled u t := by
  obtain ⟨page, link, draws, still⟩ := h
  exact ⟨by rw [hpage, page], by rw [hlink, link], by rw [hdraws, draws], by rw [hpage]; exact still⟩

/-! ### The notices -/

/-- R66, R56: what the notices leave: the page as it is, with pattern and plan; or a settle from a plan without a job,
the pattern then worked out again. -/
structure Noticed (s t : State) : Prop where
  handedOn : HandedOn s t
  faults : t.plan.faults = s.plan.faults
  outcome : (NotSettled s t ∧ t.pattern = s.pattern ∧ t.plan = s.plan) ∨
    (Settles s.pattern s t ∧ s.pipe.engine = .idle ∧ (∀ r, jobAt s r = none) ∧ PatternRight t ∧
      ∀ r, jobAt t r = if r ∈ statusRows s ∧ t.pattern ≠ s.pattern then freshJob t r else none)

theorem noticed_settleCheck (hlt : ∀ r ∈ statusRows s, r < 24) (hempty : s.pipe.engine = .idle → slotsEmpty s = true)
    (handed : HandedOn s u) (c : Changes [.pipe, .touch] s u) : Noticed s (settleCheck u) := by
  by_cases can : canSettle u = true
  · obtain ⟨working, empty, idle⟩ := canSettle_iff.mp can
    have pipe := handed.pipe_of_idle idle
    have idle' : s.pipe.engine = .idle := by rw [← pipe, idle]
    have noJob := planEmpty_iff.mp empty
    have settled := resettled_settlePage (by rwa [statusRows_congr c.start])
      (by rw [slotsEmpty, pipe]; exact hempty idle') noJob
    rw [settleCheck_of_canSettle can]
    refine ⟨settled.handedOn handed c.start idle, by rw [settled.faults, c.plan], .inr ⟨?_, idle', fun r => ?_, settled.pattern, fun r => ?_⟩⟩
    · rw [← c.pattern]
      exact (settled.settles working).congr c.start.symm c.page.symm c.link.symm c.draws.symm
    · rw [← jobAt_congr c.plan, noJob]
    · rw [settled.jobs, statusRows_congr c.start, c.pattern]
  · rw [settleCheck_of_not_canSettle can]
    refine ⟨handed, by rw [c.plan], .inl ⟨⟨c.page, c.link, c.draws, fun working idle => ?_⟩, c.pattern, c.plan⟩⟩
    exact Bool.eq_false_iff.mpr fun empty => can (canSettle_iff.mpr ⟨by rw [c.page, working], empty, idle⟩)

theorem noticed_planNotices (hlt : ∀ r ∈ statusRows s, r < 24) (hempty : s.pipe.engine = .idle → slotsEmpty s = true) :
    Noticed s (planNotices s) :=
  noticed_settleCheck hlt hempty (handedOn_quietNotices hempty) (changes_quietNotices s)

/-! ### The drift scan -/

theorem length_writeRow (img : Image) (cc r : Nat) (x : PinSet) : (writeRow img cc r x).length = img.length :=
  List.length_mapIdx

/-- R9: a sensed row in SHOWN, pin by pin. -/
theorem pinUp_senseRow {r r' p : Nat} (pins : PinSet) (size : s.shown.length = lineCount s * cellCount s)
    (hr : r' < rowCount s) (hp : p < colCount s) : pinUp (senseRow r pins s).shown (cellCount s) r' p =
      if r' = r then pins.getLsbD p else pinUp s.shown (cellCount s) r' p := by
  refine pinUp_writeRow _ _ _ _ _ _ hp ?_
  rw [size]
  exact (cellIndex_lt_iff hp).mpr hr

theorem changes_senseLine (l : Nat) (r0 r1 r2 r3 : PinSet) : Changes [.shown] s (senseLine l r0 r1 r2 r3 s) :=
  (((changes_senseRow _ _ _).trans (changes_senseRow _ _ _)).trans (changes_senseRow _ _ _)).trans
    (changes_senseRow _ _ _)

theorem length_senseLine (l : Nat) (r0 r1 r2 r3 : PinSet) :
    (senseLine l r0 r1 r2 r3 s).shown.length = s.shown.length := by
  simp [senseLine, senseRow, length_writeRow]

/-- R153: the four rows of a line as sensed, and every other pin of SHOWN. -/
theorem pinUp_senseLine {l r p : Nat} (r0 r1 r2 r3 : PinSet) (size : s.shown.length = lineCount s * cellCount s)
    (hr : r < rowCount s) (hp : p < colCount s) : pinUp (senseLine l r0 r1 r2 r3 s).shown (cellCount s) r p =
      if r = 4 * l then r0.getLsbD p else if r = 4 * l + 1 then r1.getLsbD p
      else if r = 4 * l + 2 then r2.getLsbD p else if r = 4 * l + 3 then r3.getLsbD p
      else pinUp s.shown (cellCount s) r p := by
  let s1 := senseRow (4 * l) r0 s
  let s2 := senseRow (4 * l + 1) r1 s1
  let s3 := senseRow (4 * l + 2) r2 s2
  have size1 : s1.shown.length = lineCount s * cellCount s := (length_writeRow ..).trans size
  have size2 : s2.shown.length = lineCount s * cellCount s := (length_writeRow ..).trans size1
  have size3 : s3.shown.length = lineCount s * cellCount s := (length_writeRow ..).trans size2
  have first := pinUp_senseRow (r := 4 * l) r0 size hr hp
  have second := pinUp_senseRow (s := s1) (r := 4 * l + 1) r1 size1 hr hp
  have third := pinUp_senseRow (s := s2) (r := 4 * l + 2) r2 size2 hr hp
  have fourth := pinUp_senseRow (s := s3) (r := 4 * l + 3) r3 size3 hr hp
  refine fourth.trans ?_
  rw [show pinUp s3.shown (cellCount s3) r p = _ from third, show pinUp s2.shown (cellCount s2) r p = _ from second,
    show pinUp s1.shown (cellCount s1) r p = _ from first]
  split_ifs <;> first | rfl | omega

/-- R152: the scan chooses the first open line from the rotation pointer on. -/
theorem driftLine_eq_some {i : Nat} (hi : i < lineCount s)
    (opened : lineClosed s ((s.touch.rotation + i) % lineCount s) = false)
    (before : ∀ k < i, lineClosed s ((s.touch.rotation + k) % lineCount s) = true) :
    driftLine s = some ((s.touch.rotation + i) % lineCount s) := by
  rw [driftLine, driftOrder, List.find?_map, List.find?_range_eq_some.mpr ⟨?_, List.mem_range.mpr hi, fun k hk => ?_⟩]
  · rfl
  · simp [opened]
  · simp [before k hk]

theorem driftLine_eq_none (closed : ∀ l < lineCount s, lineClosed s l = true) : driftLine s = none := by
  rw [driftLine, List.find?_eq_none]
  intro l hl
  obtain ⟨i, hi, rfl⟩ := List.mem_map.mp hl
  simp [closed _ (Nat.mod_lt _ (Nat.zero_lt_of_lt (List.mem_range.mp hi)))]

/-- R153: the tile rows of a line. -/
def lineRows (l : Nat) : List Nat := [4 * l, 4 * l + 1, 4 * l + 2, 4 * l + 3]

theorem mem_lineRows {l r : Nat} : r ∈ lineRows l ↔ r / 4 = l := by
  simp only [lineRows, List.mem_cons, List.not_mem_nil, or_false]
  omega

theorem lineRows_nodup (l : Nat) : (lineRows l).Nodup := by simp [lineRows]

/-- R74: a refresh, seen from the state that stands after it: nothing that a job is made of changes. -/
theorem jobAt_refreshed {rows : List Nat} (hnodup : rows.Nodup) (hlt : ∀ r ∈ rows, r < 24)
    (start : t.start = s.start) (target : t.page.target = s.page.target) (shown : t.shown = s.shown)
    (pattern : t.pattern = s.pattern) (faults : t.plan.faults = s.plan.faults) (r : Nat) :
    jobAt (refreshRows rows s) r = if r ∈ rows then refreshedJob s t r else jobAt s r := by
  rw [jobAt_refreshRows rows hnodup hlt]
  split
  · exact refreshedJob_congr rfl (diff_congr start target shown pattern faults r).symm
      fun m => (baseLevel_congr start faults r m).symm
  · rfl

theorem lineCount_mul (s : State) : rowCount s = 4 * lineCount s := rfl

/-- Settles O51: the line is sensed and its rows refreshed, which the notices then follow (`noticed_planNotices`). -/
theorem driftScanSensesTheNextOpenLine : Obligations.DriftScanSensesTheNextOpenLine := by
  unfold Obligations.DriftScanSensesTheNextOpenLine
  intro r0 r1 r2 r3 s running start ⟨idleEmpty, _⟩ sizes
  have exec_eq : exec (.driftTimerExpiry r0 r1 r2 r3) s = .next (driftExpires r0 r1 r2 r3 s) := whenRunning_running running
  refine ⟨fun notDue => ?_, fun due => ⟨fun closed => ?_, fun i l hi hl opened before => ?_⟩⟩
  · have same : driftExpires r0 r1 r2 r3 s = s := if_neg (by simp [driftPeriod, notDue])
    rw [exec_eq, same]
  all_goals
    let s1 := s.withTouch { s.touch with driftTimer := some 0 }
    have expires : driftExpires r0 r1 r2 r3 s = match driftLine s1 with
        | none => s1
        | some l => scanLine l r0 r1 r2 r3 s1 := if_pos due
  · refine ⟨s1, ?_, changes_withTouch _ _, rfl⟩
    rw [exec_eq, expires, driftLine_eq_none (s := s1) closed]
  · subst hl
    have chosen : driftLine s1 = some ((s.touch.rotation + i) % lineCount s) := driftLine_eq_some (s := s1) hi opened before
    generalize hl : (s.touch.rotation + i) % lineCount s = l at *
    have inRect : l < lineCount s := by
      rw [← hl]
      exact Nat.mod_lt _ (by omega)
    rw [chosen] at expires
    have lt24 : ∀ r ∈ lineRows l, r < 24 := by
      intro r hr
      have := mem_lineRows.mp hr
      have := start.rows_le
      rw [lineCount_mul] at this
      omega
    let s2 := s.withTouch { s.touch with rotation := (l + 1) % lineCount s, driftTimer := some 0 }
    have sensed := changes_senseLine (s := s2) l r0 r1 r2 r3
    have refreshed := changes_refreshRows (lineRows l) (senseLine l r0 r1 r2 r3 s2)
    have faults := refreshRows_faults (senseLine l r0 r1 r2 r3 s2) (lineRows l)
    have noticed : Noticed (refreshRows (lineRows l) (senseLine l r0 r1 r2 r3 s2)) (driftExpires r0 r1 r2 r3 s) := by
      rw [expires]
      refine noticed_planNotices ?_ fun idle => ?_
      · rw [statusRows_congr (refreshed.start.trans sensed.start)]
        exact statusRows_lt start
      · rw [slotsEmpty, refreshed.pipe, sensed.pipe]
        rw [refreshed.pipe, sensed.pipe] at idle
        exact idleEmpty idle
    have changed : Changes (.shown :: workBlocks) s (driftExpires r0 r1 r2 r3 s) := changes_driftExpires _ _ _ _ _
    have shown : (driftExpires r0 r1 r2 r3 s).shown = (senseLine l r0 r1 r2 r3 s2).shown := by
      rw [expires]
      exact (changes_planNotices _).shown.trans refreshed.shown
    obtain ⟨-, -, shownSize, -⟩ := sizes
    refine ⟨_, exec_eq, changed.mono (by decide), fun r p hr hp => ?_, ?_, ?_, ?_, ?_⟩
    · rw [shown]
      exact pinUp_senseLine (s := s2) r0 r1 r2 r3 shownSize hr hp
    · rw [shown, length_senseLine]
      rfl
    · rw [noticed.faults, faults, sensed.plan]
      rfl
    · exact noticed.handedOn.congr (refreshed.start.trans sensed.start).symm (refreshed.pipe.trans sensed.pipe).symm
        (refreshed.touch.trans sensed.touch).symm rfl rfl rfl rfl
    · have startSame := refreshed.start.trans sensed.start
      have pageSame := refreshed.page.trans sensed.page
      have linkSame := refreshed.link.trans sensed.link
      have drawsSame := refreshed.draws.trans sensed.draws
      have patternSame := refreshed.pattern.trans sensed.pattern
      rcases noticed.outcome with ⟨still, pattern, plan⟩ | ⟨settles, idle, noJob, right, jobs⟩
      · refine .inl ⟨still.congr pageSame.symm linkSame.symm drawsSame.symm, pattern.trans patternSame, fun r => ?_⟩
        rw [jobAt_congr plan, jobAt_refreshed (lineRows_nodup l) lt24 (changed.start.trans sensed.start.symm)
          (by rw [still.1, refreshed.page]) shown (by rw [pattern, refreshed.pattern])
          (by rw [noticed.faults, faults]), jobAt_congr sensed.plan]
        simp only [mem_lineRows]
        split
        · exact refreshedJob_congr (jobAt_congr sensed.plan r).symm rfl fun _ => rfl
        · rfl
      · refine .inr ⟨?_, by rw [← idle, refreshed.pipe, sensed.pipe]; rfl, right, fun r => ?_⟩
        · rw [← show _ = s.pattern from patternSame]
          exact settles.congr startSame.symm pageSame.symm linkSame.symm drawsSame.symm
        · rw [jobs, statusRows_congr startSame, show _ = s.pattern from patternSame]
          rfl

end Sys2Proof.Machine
end

section
/-!
The charge bank's refill (R110, R111, R113) and the firing attempt that a gain brings (R97, R98).
-/

namespace Sys2Proof.Machine

variable {s t v s' t' : State} {c : Settings}

/-! ### Own demand -/

theorem DemandFollows.congr (h : DemandFollows c s t) (hstart : s'.start = s.start) (hbank : s'.bank = s.bank)
    (hrail : s'.rail = s.rail) (hlink : s'.link = s.link) (hdraws : s'.draws = s.draws)
    (life : t'.start.life = t.start.life) (bank : t'.bank = t.bank) (rail : t'.rail = t.rail) (link : t'.link = t.link)
    (draws : t'.draws = t.draws) : DemandFollows c s' t' := by
  obtain ⟨demand, follows⟩ := h
  refine ⟨by rw [bank, hbank, demand], ?_⟩
  rw [hbank, rail, hrail, link, hlink, draws, hdraws, bank, enqueueAnnounce_link_congr .draw hstart hlink hdraws,
    enqueueAnnounce_draws_congr .draw hstart hlink hdraws, onTheLink_congr hstart]
  split
  · rename_i same
    rwa [if_pos same] at follows
  · rename_i differs
    rw [if_neg differs] at follows
    refine ⟨follows.1, ?_⟩
    split
    · rename_i on
      have recomputed := follows.2
      rw [if_pos on] at recomputed
      exact recomputed.congr hrail rail bank life (by rw [link])
    · rename_i off
      have same := follows.2
      rwa [if_neg off] at same

/-- R113, R114, R130: own demand worked out afresh. -/
theorem demandFollows_updateDemand (hc : s.start.settings = some c) : DemandFollows c s (updateDemand s) := by
  refine ⟨updateDemand_bank s, ?_⟩
  have bank := updateDemand_bank s
  by_cases same : demandOf s.bank.charge = s.bank.demand
  · have eq : updateDemand s = s := if_pos same
    rw [if_pos same, eq]
    exact ⟨rfl, rfl, rfl⟩
  · let x := s.withBank { s.bank with demand := demandOf s.bank.charge }
    have eq : updateDemand s = recomputeAllowance (announceDemand x) := if_neg same
    have announced := changes_announceDemand x
    have recomputed := changes_recomputeAllowance (announceDemand x)
    rw [if_neg same, bank, eq, recomputed.link, recomputed.draws]
    constructor
    · unfold announceDemand
      split
      · rename_i known
        rw [if_pos (show x.bank.demand = x.bank.lastAnnounced from known)]
        exact ⟨rfl, rfl⟩
      · rename_i unknown
        rw [if_neg (show ¬ x.bank.demand = x.bank.lastAnnounced from unknown)]
        exact ⟨enqueueAnnounce_link_congr _ rfl rfl rfl, enqueueAnnounce_draws_congr _ rfl rfl rfl⟩
    · have on : onTheLink (announceDemand x) = onTheLink s := onTheLink_congr announced.start
      cases ho : onTheLink s with
      | true =>
        rw [if_pos rfl]
        exact (recomputeAllowance_spec _ ((congrArg StartUp.settings announced.start).trans hc) (on.trans ho)).congr
          (announced.rail.symm) rfl rfl rfl rfl
      | false =>
        rw [if_neg (by decide), recomputeAllowance_off _ (on.trans ho), announced.rail]
        rfl

/-- R111: a strike is paid for, and own demand follows. -/
theorem demandFollows_pay (hc : s.start.settings = some c) (cost : Nat) :
    DemandFollows c (s.withBank { s.bank with charge := s.bank.charge - cost }) (pay cost s) :=
  demandFollows_updateDemand hc

theorem DemandFollows.share_kept (h : DemandFollows c s t) :
    t.rail.view = s.rail.view ∧ t.rail.refreshTimer = s.rail.refreshTimer := by
  obtain ⟨-, follows⟩ := h
  split at follows
  · rw [follows.1]
    exact ⟨rfl, rfl⟩
  · obtain ⟨-, allowance⟩ := follows
    split at allowance
    · exact ⟨allowance.1, allowance.2.1⟩
    · rw [allowance]
      exact ⟨rfl, rfl⟩

theorem DemandFollows.same (h : DemandFollows c s t) (same : demandOf s.bank.charge = s.bank.demand) :
    t.rail = s.rail ∧ t.link = s.link := by
  obtain ⟨-, follows⟩ := h
  rw [if_pos same] at follows
  exact ⟨follows.1, follows.2.1⟩

/-- R114: a changed demand that is not the last announced one stands in the queue. -/
theorem DemandFollows.queued (h : DemandFollows c s t) (changed : demandOf s.bank.charge ≠ s.bank.demand)
    (unknown : t.bank.demand ≠ s.bank.lastAnnounced) : Queued .draw t := by
  obtain ⟨-, follows⟩ := h
  rw [if_neg changed, if_neg unknown] at follows
  obtain ⟨⟨link, -⟩, -⟩ := follows
  rw [Queued, link]
  exact queued_enqueueAnnounce _ _

theorem bankOk_follows (h : DemandFollows c s t) (room : s.bank.charge ≤ bankLimit) : BankOk t := by
  obtain ⟨bank, -⟩ := h
  rw [BankOk, bank]
  exact ⟨room, rfl⟩

/-! ### A firing attempt -/

theorem tryFire_of_not {x : Slot} (strike : s.pipe.strike = some x) (h : canFire s x = false) : tryFire s = s := by
  simp [tryFire, strike, h]

theorem tryFire_of_none (strike : s.pipe.strike = none) : tryFire s = s := by simp [tryFire, strike]

/-- R97: a strike is driven and paid for. -/
theorem tryFire_fires {x : Slot} (strike : s.pipe.strike = some x) (h : canFire s x = true) : tryFire s =
    pay x.cost (s.withPipe { s.pipe with
      strike := some { x with fired := true }, matrix := some ⟨x.row, x.moves, x.level⟩ }) := by
  simp [tryFire, strike, h]

/-- R97, R111: the firing attempt, by the row in STRIKE that fires, if there is one. -/
theorem tryFire_spec (hc : s.start.settings = some c) :
    (tryFire s).pipe = { s.pipe with
      strike := ((s.pipe.strike.filter (canFire s)).map (fun x => { x with fired := true })).or s.pipe.strike
      matrix := ((s.pipe.strike.filter (canFire s)).map (fun x => ⟨x.row, x.moves, x.level⟩)).or s.pipe.matrix } ∧
    match s.pipe.strike.filter (canFire s) with
    | none => tryFire s = s
    | some x => DemandFollows c (s.withBank { s.bank with charge := s.bank.charge - x.cost }) (tryFire s) := by
  cases strike : s.pipe.strike with
  | none =>
    have same : s.pipe = { s.pipe with strike := none } := by rw [← strike]
    rw [tryFire_of_none strike]
    exact ⟨same, show s = s from rfl⟩
  | some x =>
    cases fires : canFire s x with
    | false =>
      have same : s.pipe = { s.pipe with strike := some x } := by rw [← strike]
      rw [tryFire_of_not strike fires, Option.filter_some, fires]
      exact ⟨same, show s = s from rfl⟩
    | true =>
      rw [tryFire_pipe s strike, if_pos fires, Option.filter_some, fires, tryFire_fires strike fires]
      let u := s.withPipe { s.pipe with
        strike := some { x with fired := true }, matrix := some ⟨x.row, x.moves, x.level⟩ }
      have paid : DemandFollows c (u.withBank { u.bank with charge := u.bank.charge - x.cost }) (pay x.cost u) :=
        demandFollows_pay (s := u) hc x.cost
      exact ⟨rfl, paid.congr rfl rfl rfl rfl rfl rfl rfl rfl rfl rfl⟩

/-! ### The rail period -/

/-- Settles O43: own demand follows the gain (`v`), and a gain of at least 1 is followed by a firing attempt. -/
theorem railPeriodRefillsTheBank : Obligations.RailPeriodRefillsTheBank := by
  unfold Obligations.RailPeriodRefillsTheBank
  refine ⟨fun charge => (demandOf_spec charge).2, fun s c running hc => ?_⟩
  have exec_eq : exec .railPeriod s = .next (railExpires s) := whenRunning_running running
  refine ⟨fun notDue => ?_, fun due bank => ?_⟩
  · have same : railExpires s = s := if_neg (by simp [railPeriod, notDue])
    rw [exec_eq, same]
  obtain ⟨room, demand⟩ := bank
  let g := min s.rail.applied (4000 - s.bank.charge)
  let gained := s.withBank { s.bank with railTimer := some 0, transfer := g, charge := s.bank.charge + g }
  have expires : railExpires s = if g = 0 then gained else tryFire (updateDemand gained) := if_pos due
  have follows : DemandFollows c gained (updateDemand gained) := demandFollows_updateDemand hc
  have changed : Changes [.bank, .rail, .link, .draws] s (updateDemand gained) :=
    (changes_withBank _ _).comp (changes_updateDemand _)
  have full : gained.bank.charge ≤ bankLimit := by
    have : s.bank.charge ≤ 4000 := room
    show s.bank.charge + g ≤ 4000
    omega
  have bank : (updateDemand gained).bank = { gained.bank with demand := demandOf gained.bank.charge } := follows.1
  have nothing (none : g = 0) : updateDemand gained = gained := by
    refine if_pos ?_
    show demandOf (s.bank.charge + g) = s.bank.demand
    rw [none, demand, Nat.add_zero]
  have ends : railExpires s = if g = 0 then updateDemand gained else tryFire (updateDemand gained) := by
    rw [expires]
    split
    · rename_i none
      rw [nothing none]
    · rfl
  let fires (x : Slot) : Bool :=
    decide (0 < g) && !x.fired && !lineClosed s (x.row / 4) && decide (x.cost ≤ s.bank.charge + g)
  have canFire_eq (positive : 0 < g) : canFire (updateDemand gained) = fires := by
    funext x
    unfold canFire
    rw [lineClosed_congr (by rw [changed.touch] : (updateDemand gained).touch.lines = s.touch.lines), bank]
    simp only [fires, positive, decide_true, Bool.true_and]
    rfl
  have fired : (railExpires s).pipe = { s.pipe with
        strike := ((s.pipe.strike.filter fires).map (fun x => { x with fired := true })).or s.pipe.strike
        matrix := ((s.pipe.strike.filter fires).map (fun x => ⟨x.row, x.moves, x.level⟩)).or s.pipe.matrix } ∧
      match s.pipe.strike.filter fires with
      | none => railExpires s = updateDemand gained
      | some x => DemandFollows c ((updateDemand gained).withBank { (updateDemand gained).bank with
          charge := (updateDemand gained).bank.charge - x.cost }) (railExpires s) := by
    rw [ends]
    by_cases none : g = 0
    · have never : s.pipe.strike.filter fires = Option.none := by simp [fires, none]
      rw [if_pos none, never, changed.pipe]
      exact ⟨rfl, rfl⟩
    · rw [if_neg none, ← canFire_eq (Nat.pos_of_ne_zero none), ← changed.pipe]
      exact tryFire_spec ((congrArg StartUp.settings changed.start).trans hc)
  obtain ⟨pipe, paid⟩ := fired
  have share := follows.share_kept
  refine ⟨railExpires s, updateDemand gained, exec_eq, changes_railExpires s, ?_⟩
  dsimp only
  change _ ∧ _ ∧ _ ∧ (railExpires s).bank.charge = s.bank.charge + g - ((s.pipe.strike.filter fires).map (·.cost)).getD 0 ∧
    _ ∧ _ ∧ _ ∧ _ ∧ (match s.pipe.strike.filter fires with
      | none => Changes [.pipe] (updateDemand gained) (railExpires s)
      | some x => DemandFollows c ((updateDemand gained).withBank { (updateDemand gained).bank with
          charge := (updateDemand gained).bank.charge - x.cost }) (railExpires s)) ∧ _
  have idle (none : g = 0) : (railExpires s).rail = s.rail ∧ (railExpires s).link = s.link := by
    rw [ends, if_pos none, nothing none]
    exact ⟨rfl, rfl⟩
  cases hfired : s.pipe.strike.filter fires with
  | none =>
    rw [hfired] at paid pipe
    dsimp only at paid
    have bank' := (congrArg State.bank paid).trans bank
    refine ⟨congrArg Bank.railTimer bank', congrArg Bank.transfer bank', (congrArg Bank.lastAnnounced bank').trans rfl,
      congrArg Bank.charge bank', ?_, pipe, changed, follows, ?_, ?_, ?_, idle, fun moved unknown => ?_⟩
    · rw [paid]; exact bankOk_follows follows full
    · rw [paid]; exact .refl _ _
    · rw [paid, share.1]; rfl
    · rw [paid, share.2]; rfl
    · rw [paid] at moved unknown ⊢
      exact follows.queued (by rw [bank] at moved; exact moved) unknown
  | some x =>
    rw [hfired] at paid pipe
    dsimp only at paid
    have share' := paid.share_kept
    have bank' : (railExpires s).bank = _ := paid.1
    rw [bank] at bank'
    refine ⟨congrArg Bank.railTimer bank', congrArg Bank.transfer bank', (congrArg Bank.lastAnnounced bank').trans rfl,
      congrArg Bank.charge bank', ?_, pipe, changed, follows, paid, ?_, ?_, idle, fun moved unknown => ?_⟩
    · refine bankOk_follows paid ?_
      rw [bank]
      exact (Nat.sub_le _ _).trans full
    · exact share'.1.trans share.1
    · exact share'.2.trans share.2
    · by_cases again : demandOf ((updateDemand gained).bank.charge - x.cost) = (updateDemand gained).bank.demand
      · have link := (paid.same again).2
        have demand' : (railExpires s).bank.demand = (updateDemand gained).bank.demand := by
          rw [← again, bank', bank]
          rfl
        rw [demand'] at moved unknown
        have queued := follows.queued (by rw [bank] at moved; exact moved) unknown
        rw [Queued] at queued ⊢
        rw [link]
        exact queued
      · refine paid.queued again ?_
        rw [State.withBank_bank, bank]
        exact unknown

end Sys2Proof.Machine
end

section
/-!
The pipeline's step (R93 to R97), stage by stage: the sense of a busy pipeline, the rows that move on, and the end of the
step with the admission, the fence and the settle.
-/

namespace Sys2Proof.Machine

variable {s t u w : State} {c : Settings}

/-! ### The sense -/

/-- R66: while the engine is not IDLE the notices judge the hold condition and nothing else. -/
theorem planNotices_of_busy (busy : s.pipe.engine ≠ .idle) : planNotices s = judgeHold s := by
  have look : lookForRow s = s := if_neg fun h => busy h.1
  have quiet : quietNotices s = judgeHold s := congrArg judgeHold look
  rw [planNotices, quiet]
  exact settleCheck_of_not_canSettle fun can => busy ((changes_judgeHold s).pipe ▸ (canSettle_iff.mp can).2.2)

theorem holdJudged_judgeHold (s : State) : HoldJudged s (judgeHold s) := by
  have c := changes_judgeHold s
  rw [holdJudged_iff, holdCondition_congr (t := judgeHold s) c.start c.plan (by rw [judgeHold_touch])]
  exact judgeHold_phase s

theorem HoldJudged.congr {s' t' : State} (h : HoldJudged s t) (hs : s'.touch.holdPhase = s.touch.holdPhase)
    (hstart : t'.start = t.start) (hplan : t'.plan = t.plan) (hlines : t'.touch.lines = t.touch.lines)
    (hphase : t'.touch.holdPhase = t.touch.holdPhase) : HoldJudged s' t' := by
  rw [holdJudged_iff] at *
  rw [hphase, hs, holdCondition_congr hstart hplan hlines, h]

/-- The recompute neither reads nor changes the row pipeline. -/
theorem recomputeRow_withPipe (r : Nat) (m : Moves) (a : Nat) (v : Bool) (p : Pipeline) :
    recomputeRow r m a v (s.withPipe p) = (recomputeRow r m a v s).withPipe p := by
  have judged (x : State) : recomputeJob r m a (x.withPipe p) = (recomputeJob r m a x).withPipe p := by
    unfold recomputeJob
    dsimp only
    have same : diff (x.withPipe p) r = diff x r := rfl
    rw [same]
    split
    · rfl
    · split
      · split <;> rfl
      · rfl
  cases v with
  | false => exact judged (markWeak r (movedHome s r m a) s)
  | true =>
    show recomputeVoided r m a (s.withPipe p) = (recomputeVoided r m a s).withPipe p
    unfold recomputeVoided
    dsimp only
    have same : diff (s.withPipe p) r = diff s r := rfl
    rw [same]
    split
    · rfl
    · split <;> rfl

/-- R94, R76, R149: the sense of a pipeline that is not IDLE: SENSE is emptied, its row sensed and recomputed, and the
hold condition judged. -/
structure SensedRow (pins : PinSet) (s u : State) : Prop where
  changes : Changes [.plan, .shown, .pipe, .touch] s u
  pipe : u.pipe = { s.pipe with sense := none }
  touch : u.touch = { s.touch with holdPhase := u.touch.holdPhase }
  outcome : match s.pipe.sense with
    | none => u = s
    | some x => u.shown = (senseRow x.row pins s).shown ∧
        u.plan = (recomputeRow x.row x.moves x.attempt (lineClosed s (x.row / 4)) (senseRow x.row pins s)).plan ∧
        HoldJudged s u

theorem sensedRow_senseStage (pins : PinSet) (busy : s.pipe.engine ≠ .idle) : SensedRow pins s (senseStage pins s) := by
  cases sense : s.pipe.sense with
  | none =>
    have same : senseStage pins s = s := by simp [senseStage, sense]
    have pipe : s.pipe = { s.pipe with sense := none } := by rw [← sense]
    rw [same]
    exact ⟨.refl _ _, pipe, rfl, by rw [sense]⟩
  | some x =>
    let p : Pipeline := { s.pipe with sense := none }
    let y := recomputeRow x.row x.moves x.attempt (lineClosed s (x.row / 4)) (senseRow x.row pins s)
    have eq : senseStage pins s = judgeHold (y.withPipe p) := by
      have moved : senseStage pins s = planNotices (recomputeRow x.row x.moves x.attempt (lineClosed s (x.row / 4))
          ((senseRow x.row pins s).withPipe p)) := by
        unfold senseStage
        rw [sense]
        rfl
      rw [moved, recomputeRow_withPipe]
      exact planNotices_of_busy busy
    have sensed := changes_senseRow x.row pins s
    have recomputed : Changes [.plan] (senseRow x.row pins s) y := changes_recomputeRow _ _ _ _ _
    have piped : Changes [.plan, .shown, .pipe] s (y.withPipe p) :=
      (sensed.comp recomputed (ds := [.plan, .shown, .pipe])).comp (changes_withPipe _ _)
    have judged := changes_judgeHold (y.withPipe p)
    rw [eq]
    refine ⟨piped.comp judged, judged.pipe, ?_, ?_⟩
    · rw [judgeHold_touch, piped.touch]
    · rw [sense]
      refine ⟨judged.shown.trans recomputed.shown, judged.plan, ?_⟩
      exact (holdJudged_judgeHold (y.withPipe p)).congr (by rw [piped.touch]) rfl rfl rfl rfl

/-! ### The rows that move on -/

/-- R95: the unfired row that stays in STRIKE. -/
def stalledRow (p : Pipeline) : Option Slot := p.strike.filter (fun x => !x.fired)

/-- R93: the row that leaves LOAD for an empty STRIKE. -/
def enteringRow (p : Pipeline) : Option Slot := if (stalledRow p).isSome then none else p.load

/-- R97: a row that enters STRIKE fires: its line is open and its cost covered. -/
def firesNow (s : State) (x : Slot) : Bool := !lineClosed s (x.row / 4) && decide (x.cost ≤ s.bank.charge)

theorem settleStage_pipe (sense : s.pipe.sense = none) :
    (settleStage s).pipe = { s.pipe with settle := none, sense := s.pipe.settle } := by
  unfold settleStage
  cases settle : s.pipe.settle with
  | none =>
    have same : s.pipe = { s.pipe with settle := none, sense := none } := by cases hp : s.pipe; simp_all
    exact same
  | some x => rfl

theorem strikeStage_pipe (settle : s.pipe.settle = none) :
    (strikeStage s).pipe = { s.pipe with strike := stalledRow s.pipe, settle := keepFired s.pipe.strike } := by
  unfold strikeStage stalledRow keepFired
  cases strike : s.pipe.strike with
  | none =>
    have same : s.pipe = { s.pipe with strike := none, settle := none } := by cases hp : s.pipe; simp_all
    exact same
  | some x =>
    cases fired : x.fired with
    | true => simp [Option.filter, fired]
    | false =>
      have same : s.pipe = { s.pipe with strike := some x, settle := none } := by rw [← settle, ← strike]
      simpa [Option.filter, fired] using same

/-- R93, R97: the row of LOAD enters an empty STRIKE and fires if it can. -/
theorem loadStage_spec (hc : s.start.settings = some c) (unfired : allUnfired s.pipe.load) {enters : Option Slot}
    (henters : enters = if s.pipe.strike.isSome then none else s.pipe.load) :
    (loadStage s).pipe = { s.pipe with
      load := if s.pipe.strike.isSome then s.pipe.load else none
      strike := s.pipe.strike.or (enters.map (fun x => { x with fired := firesNow s x }))
      matrix := ((enters.filter (firesNow s)).map (fun x => ⟨x.row, x.moves, x.level⟩)).or s.pipe.matrix } ∧
    match enters.filter (firesNow s) with
    | none => Changes [.pipe] s (loadStage s)
    | some x => DemandFollows c (s.withBank { s.bank with charge := s.bank.charge - x.cost }) (loadStage s) := by
  cases strike : s.pipe.strike with
  | some y =>
    have same : loadStage s = s := by simp [loadStage, strike]
    have pipe : s.pipe = { s.pipe with strike := some y } := by rw [← strike]
    subst henters
    rw [same, strike]
    exact ⟨pipe, (Changes.refl _ _ : Changes [.pipe] s s)⟩
  | none =>
    have he : enters = s.pipe.load := by rw [henters, strike]; rfl
    subst he
    cases load : s.pipe.load with
    | none =>
      have same : loadStage s = s := by simp [loadStage, strike, load]
      have pipe : s.pipe = { s.pipe with load := none, strike := none } := by cases hp : s.pipe; simp_all
      rw [same]
      exact ⟨pipe, (Changes.refl _ _ : Changes [.pipe] s s)⟩
    | some x =>
      let p : Pipeline := { s.pipe with load := none, strike := some x }
      have enters : loadStage s = tryFire (s.withPipe p) := by simp [loadStage, strike, load, p]
      have fires : canFire (s.withPipe p) x = firesNow s x := by
        unfold canFire
        rw [unfired x load]
        rfl
      obtain ⟨pipe, paid⟩ := tryFire_spec (s := s.withPipe p) hc
      rw [show (s.withPipe p).pipe.strike = some x from rfl, Option.filter_some, fires] at pipe paid
      rw [enters, Option.filter_some]
      cases hf : firesNow s x with
      | true =>
        rw [hf] at pipe paid
        refine ⟨pipe.trans (by simp [hf, p]), ?_⟩
        exact DemandFollows.congr paid rfl rfl rfl rfl rfl rfl rfl rfl rfl rfl
      | false =>
        rw [hf] at pipe paid
        have stays : x = { x with fired := firesNow s x } := by
          rw [hf, ← unfired x load]
        refine ⟨pipe.trans ?_, ?_⟩
        · simp [p, ← stays]
        · rw [show tryFire (s.withPipe p) = s.withPipe p from paid]
          exact changes_withPipe _ _

/-- R93, R95, R97: the rows have moved on by one stage. -/
structure RowsMoved (c : Settings) (s u : State) : Prop where
  changes : Changes [.pipe, .bank, .rail, .link, .draws] s u
  pipe : u.pipe = { s.pipe with
    load := if (stalledRow s.pipe).isSome then s.pipe.load else none
    strike := (stalledRow s.pipe).or ((enteringRow s.pipe).map (fun x => { x with fired := firesNow s x }))
    settle := keepFired s.pipe.strike
    sense := s.pipe.settle
    matrix := (((enteringRow s.pipe).filter (firesNow s)).map (fun x => ⟨x.row, x.moves, x.level⟩)).or s.pipe.matrix }
  paid : match (enteringRow s.pipe).filter (firesNow s) with
    | none => Changes [.pipe] s u
    | some x => DemandFollows c (s.withBank { s.bank with charge := s.bank.charge - x.cost }) u

theorem rowsMoved (hc : s.start.settings = some c) (sense : s.pipe.sense = none) (unfired : allUnfired s.pipe.load) :
    RowsMoved c s (loadStage (strikeStage (settleStage s))) := by
  have settled := changes_settleStage s
  have struck := changes_strikeStage (settleStage s)
  have moved : Changes [.pipe] s (strikeStage (settleStage s)) := settled.trans struck
  have settlePipe := settleStage_pipe sense
  have strikePipe : (strikeStage (settleStage s)).pipe = { s.pipe with
      strike := stalledRow s.pipe, settle := keepFired s.pipe.strike, sense := s.pipe.settle } := by
    rw [strikeStage_pipe (by rw [settlePipe]), settlePipe]
    rfl
  have fires : firesNow (strikeStage (settleStage s)) = firesNow s := by
    funext x
    rw [firesNow, firesNow, lineClosed_congr (s := s) (by rw [moved.touch]), moved.bank]
  obtain ⟨pipe, paid⟩ := loadStage_spec (s := strikeStage (settleStage s)) (enters := enteringRow s.pipe)
    ((congrArg StartUp.settings moved.start).trans hc) (by rw [strikePipe]; exact unfired) (by rw [strikePipe]; rfl)
  rw [strikePipe, fires] at pipe
  rw [fires] at paid
  refine ⟨(moved.mono (by decide)).trans (changes_loadStage _), pipe, ?_⟩
  cases hf : (enteringRow s.pipe).filter (firesNow s) with
  | none =>
    rw [hf] at paid
    exact moved.trans paid
  | some x =>
    rw [hf] at paid
    exact DemandFollows.congr paid moved.start.symm (by rw [State.withBank_bank, State.withBank_bank, moved.bank])
      moved.rail.symm moved.link.symm moved.draws.symm rfl rfl rfl rfl rfl

/-! ### Admission -/

theorem waits_iff {r : Nat} : Waits s r ↔ eligible s r = true := by
  simp only [Waits, eligible, inFlight, Bool.and_eq_true, Bool.not_eq_true', Bool.or_eq_false_iff]
  tauto

theorem eligible_lt {r : Nat} (h : eligible s r = true) : r < 24 :=
  jobAt_some_lt s (by simp only [eligible, Bool.and_eq_true] at h; exact h.1.1)

theorem eligibleRow_none_iff : eligibleRow s = none ↔ ∀ r, ¬ Waits s r := by
  rw [eligibleRow, List.find?_eq_none]
  constructor
  · intro h r waits
    have := waits_iff.mp waits
    exact h r (List.mem_range.mpr (eligible_lt this)) this
  · intro h r _ eligible
    exact h r (waits_iff.mpr eligible)

theorem eligibleRow_some_iff {r : Nat} : eligibleRow s = some r ↔ Waits s r ∧ ∀ r' < r, ¬ Waits s r' := by
  rw [eligibleRow, List.find?_range_eq_some, List.mem_range]
  simp only [waits_iff]
  constructor
  · rintro ⟨eligible, -, before⟩
    exact ⟨eligible, fun r' lt => by simpa using before r' lt⟩
  · rintro ⟨eligible, before⟩
    exact ⟨eligible, eligible_lt eligible, fun r' lt => by simpa using before r' lt⟩

/-- R91: an admission, by what it finds. -/
theorem admitRow_cases : admitRow s = s ∧ (s.pipe.load = none → eligibleRow s = none) ∨
    ∃ r j, s.pipe.load = none ∧ eligibleRow s = some r ∧ jobAt s r = some j ∧
      admitRow s = s.withPipe { s.pipe with load := some (snapshot r j) } := by
  cases load : s.pipe.load with
  | some x => exact .inl ⟨by simp [admitRow, load], fun h => by cases h⟩
  | none =>
    cases found : eligibleRow s with
    | none => exact .inl ⟨by simp [admitRow, load, found], fun _ => rfl⟩
    | some r =>
      obtain ⟨⟨job, -⟩, -⟩ := eligibleRow_some_iff.mp found
      obtain ⟨j, hj⟩ := Option.isSome_iff_exists.mp job
      exact .inr ⟨r, j, rfl, rfl, hj, admitRow_some s load found hj⟩

/-- R90, R91: after an admission into an empty LOAD, the lowest row that waited is there, or none waits. -/
theorem admitted_admitRow (load : s.pipe.load = none) : Admitted (admitRow s) := by
  rcases admitRow_cases (s := s) with ⟨same, none⟩ | ⟨r, j, -, found, job, eq⟩
  · rw [same, Admitted, load]
    exact eligibleRow_none_iff.mp (none load)
  · obtain ⟨⟨-, -, strike, settle, sense, opened⟩, before⟩ := eligibleRow_some_iff.mp found
    rw [eq]
    refine ⟨opened, ?_, fun r' lt waits => before r' lt ?_⟩
    · show (jobAt s r).map (snapshot r) = _
      rw [job]
      rfl
    · obtain ⟨job', -, strike', settle', sense', opened'⟩ := waits
      exact ⟨job', by rw [load]; rfl, strike', settle', sense', opened'⟩

theorem slotsEmpty_false_of_load {x : Slot} (h : s.pipe.load = some x) : slotsEmpty s = false := by
  simp [slotsEmpty, h]

/-! ### The end of a step -/

/-- R93, R96: admission and the check that ends a step, by the engine state and whether the slots are then empty. -/
theorem stepEnd_cases (busy : u.pipe.engine ≠ .idle) :
    (u.pipe.engine = .running ∧ slotsEmpty (admitRow u) = false ∧ engineCheck (admissionStage u) = admitRow u) ∨
    (u.pipe.engine = .fenced ∧ slotsEmpty u = false ∧ engineCheck (admissionStage u) = u) ∨
    (u.pipe.engine = .fenced ∧ slotsEmpty u = true ∧ (eligibleRow u).isSome = true ∧
      engineCheck (admissionStage u) = admitRow (u.withPipe { u.pipe with engine := .running })) ∨
    (slotsEmpty u = true ∧ eligibleRow u = none ∧ engineCheck (admissionStage u) = becomeIdle u) := by
  cases engine : u.pipe.engine with
  | idle => exact absurd engine busy
  | running =>
    have stage : admissionStage u = admitRow u := if_pos engine
    rw [stage]
    cases empty : slotsEmpty (admitRow u) with
    | false => exact .inl ⟨rfl, rfl, if_neg (by simp [empty])⟩
    | true =>
      have none : admitRow u = u ∧ eligibleRow u = none := by
        rcases admitRow_cases (s := u) with ⟨same, none⟩ | ⟨r, j, -, -, -, eq⟩
        · rw [same] at empty
          exact ⟨same, none (slotsEmpty_iff.mp empty).1⟩
        · rw [eq, slotsEmpty_false_of_load rfl] at empty
          cases empty
      obtain ⟨same, none⟩ := none
      rw [same] at empty ⊢
      refine .inr (.inr (.inr ⟨empty, none, ?_⟩))
      unfold engineCheck
      rw [if_pos empty, engine]
  | fenced =>
    have stage : admissionStage u = u := if_neg (by simp [engine])
    rw [stage]
    cases empty : slotsEmpty u with
    | false => exact .inr (.inl ⟨rfl, rfl, if_neg (by simp [empty])⟩)
    | true =>
      unfold engineCheck
      rw [if_pos empty, engine]
      dsimp only
      cases found : eligibleRow u with
      | none => exact .inr (.inr (.inr ⟨rfl, rfl, rfl⟩))
      | some r => exact .inr (.inr (.inl ⟨rfl, rfl, rfl, rfl⟩))

/-- R93, R96, R105, R56: the end of a step, from the state `u` with its rows moved on. -/
structure StepEnded (u t : State) : Prop where
  changes : Changes workBlocks u t
  faults : t.plan.faults = u.plan.faults
  pipe : t.pipe = { u.pipe with load := t.pipe.load, engine := t.pipe.engine, stepTimer := t.pipe.stepTimer }
  touch : t.touch = { u.touch with
    holdPhase := t.touch.holdPhase
    driftTimer := if t.pipe.engine = .idle ∧ u.start.life = .joined then some 0 else none }
  outcome : (NotSettled u t ∧ t.pattern = u.pattern ∧ t.plan = u.plan ∧ t.touch.holdPhase = u.touch.holdPhase) ∨
    (Settles u.pattern u t ∧ PatternRight t ∧ slotsEmpty u = true ∧
      ∀ r, jobAt t r = if r ∈ statusRows u ∧ t.pattern ≠ u.pattern then freshJob t r else none)
  hold : (t.plan = u.plan ∧ t.touch.holdPhase = u.touch.holdPhase) ∨ HoldJudged u t
  idle : onTheLink u = true → t.pipe.engine = .idle → slotsEmpty t = true ∧ NoRowEligible t ∧ t.pipe.stepTimer = none
  busy : t.pipe.engine ≠ .idle → slotsEmpty t = false ∧ t.pipe.stepTimer = some 0
  load : u.pipe.load ≠ none → t.pipe.load = u.pipe.load
  admitted : u.pipe.load = none → t.pipe.engine = .running → Admitted t
  lifted : u.pipe.engine = .fenced → t.pipe.engine = .running → slotsEmpty u = true
  unfenced : u.pipe.engine = .running → t.pipe.engine ≠ .fenced

/-- A step that leaves the engine busy admits at most. -/
theorem stepEnded_of_busy (still : t.pipe.engine ≠ .idle) (c : Changes [.pipe] u t) (occupied : slotsEmpty t = false)
    (pipe : t.pipe = { u.pipe with load := t.pipe.load, engine := t.pipe.engine }) (timer : u.pipe.stepTimer = some 0)
    (drift : u.touch.driftTimer = none) (load : u.pipe.load ≠ none → t.pipe.load = u.pipe.load)
    (admitted : u.pipe.load = none → t.pipe.engine = .running → Admitted t)
    (lifted : u.pipe.engine = .fenced → t.pipe.engine = .running → slotsEmpty u = true)
    (unfenced : u.pipe.engine = .running → t.pipe.engine ≠ .fenced) : StepEnded u t where
  changes := c.mono (by decide)
  faults := by rw [c.plan]
  pipe := by
    have stepTimer : t.pipe.stepTimer = u.pipe.stepTimer := by rw [pipe]
    rw [stepTimer]
    exact pipe
  touch := by
    rw [c.touch, if_neg fun h => still h.1, ← drift]
  outcome := .inl ⟨⟨c.page, c.link, c.draws, fun _ idle => absurd idle still⟩, c.pattern, c.plan, by rw [c.touch]⟩
  hold := .inl ⟨c.plan, by rw [c.touch]⟩
  idle := fun _ idle => absurd idle still
  busy := fun _ => ⟨occupied, by rw [pipe]; exact timer⟩
  load := load
  admitted := admitted
  lifted := lifted
  unfenced := unfenced

/-- R96, R105: the engine IDLE, its step timer stopped, the drift timer started on a JOINED tile. -/
def engineStopped (u : State) : State := startDrift (u.withPipe { u.pipe with engine := .idle, stepTimer := none })

theorem engineStopped_spec (drift : u.touch.driftTimer = none) : Changes [.pipe, .touch] u (engineStopped u) ∧
    (engineStopped u).pipe = { u.pipe with engine := .idle, stepTimer := none } ∧
    (engineStopped u).touch = { u.touch with driftTimer := if u.start.life = .joined then some 0 else none } := by
  unfold engineStopped startDrift
  by_cases joined : u.start.life = .joined
  · rw [if_pos ⟨joined, rfl, drift⟩, if_pos joined]
    exact ⟨(changes_withPipe _ _).comp (changes_withTouch _ _), rfl, rfl⟩
  · rw [if_neg fun h => joined h.1, if_neg joined, ← drift]
    exact ⟨(changes_withPipe _ _).mono (by decide), rfl, rfl⟩

/-- R96, R105, R92: what stands after the engine has stopped, `w` being the state right then, and the notices of a settle
have been given or not. -/
theorem stepEnded_of_stopped (empty : slotsEmpty u = true) (noRow : eligibleRow u = none)
    (drift : u.touch.driftTimer = none) (changes : Changes workBlocks u t) (faults : t.plan.faults = u.plan.faults)
    (handed : (t.plan = (engineStopped u).plan ∧ t.pipe = (engineStopped u).pipe ∧ t.touch = (engineStopped u).touch) ∨
      HandedOn (engineStopped u) t)
    (outcome : (NotSettled u t ∧ t.pattern = u.pattern ∧ t.plan = u.plan ∧ t.touch.holdPhase = u.touch.holdPhase) ∨
      (Settles u.pattern u t ∧ PatternRight t ∧ slotsEmpty u = true ∧
        ∀ r, jobAt t r = if r ∈ statusRows u ∧ t.pattern ≠ u.pattern then freshJob t r else none)) : StepEnded u t := by
  obtain ⟨c, pipeW, touchW⟩ := engineStopped_spec drift
  obtain ⟨loadU, -⟩ := slotsEmpty_iff.mp empty
  have engineW : (engineStopped u).pipe.engine = .idle := by rw [pipeW]
  have quiet (plan : t.plan = (engineStopped u).plan) (touch : t.touch = (engineStopped u).touch) : NoRowEligible t := by
    intro r job
    rw [jobAt_congr (plan.trans c.plan)] at job
    rw [lineClosed_congr (by rw [touch, touchW] : t.touch.lines = u.touch.lines)]
    by_contra opened
    refine eligibleRow_none_iff.mp noRow r (waits_iff.mpr ?_)
    rw [eligible_of_slotsEmpty u empty, job]
    simpa using opened
  -- the engine stands still, or the notices of the settle have started it again
  have ends : (t.pipe = (engineStopped u).pipe ∧ (onTheLink u = true → NoRowEligible t) ∧
        t.touch.driftTimer = if u.start.life = .joined then some 0 else none) ∨
      (∃ r j, t.pipe = { (engineStopped u).pipe with
          engine := .running, stepTimer := some 0, load := some (snapshot r j) } ∧
        Admitted t ∧ t.touch.driftTimer = none) := by
    rcases handed with ⟨plan, pipe, touch⟩ | ⟨looked, -, touch⟩
    · exact .inl ⟨pipe, fun _ => quiet plan touch, by rw [touch, touchW]⟩
    · have still (pipe : t.pipe = (engineStopped u).pipe) :
          t.touch.driftTimer = if u.start.life = .joined then some 0 else none := by
        rw [touch, if_pos (by rw [pipe]), touchW]
      by_cases on : onTheLink u = true
      · rw [if_pos ⟨engineW, (onTheLink_congr c.start).trans on⟩] at looked
        rcases looked with ⟨pipe, noRow⟩ | ⟨r, j, pipe, job, opened, before⟩
        · exact .inl ⟨pipe, fun _ => noRow, still pipe⟩
        · refine .inr ⟨r, j, pipe, ?_, ?_⟩
          · rw [Admitted, pipe]
            refine ⟨opened, ?_, fun r' lt waits => ?_⟩
            · show (jobAt t r).map (snapshot r) = _
              rw [job]
              rfl
            · obtain ⟨job', -, -, -, -, opened'⟩ := waits
              exact absurd (before r' lt job') (by rw [opened']; decide)
          · rw [touch, if_neg (by rw [pipe, engineW]; exact nofun)]
      · rw [if_neg fun h => on ((onTheLink_congr c.start).symm.trans h.2)] at looked
        exact .inl ⟨looked, fun h => absurd h on, still looked⟩
  have emptied {x : State} (pipe : x.pipe = (engineStopped u).pipe) : slotsEmpty x = true := by
    rw [slotsEmpty, pipe, pipeW]
    exact empty
  refine ⟨changes, faults, ?_, ?_, outcome, ?_, fun on idle => ?_, fun busy => ?_, fun h => absurd loadU h,
    fun _ running => ?_, fun _ _ => empty, fun _ => ?_⟩
  · rcases ends with ⟨pipe, -⟩ | ⟨r, j, pipe, -⟩ <;> rw [pipe, pipeW]
  · have others : t.touch = { u.touch with holdPhase := t.touch.holdPhase, driftTimer := t.touch.driftTimer } := by
      rcases handed with ⟨-, -, touch⟩ | ⟨-, -, touch⟩ <;> rw [touch, touchW]
    rcases ends with ⟨pipe, -, driftT⟩ | ⟨r, j, pipe, -, driftT⟩
    · simp only [show t.pipe.engine = .idle by rw [pipe, engineW], true_and, ← driftT]
      exact others
    · rw [if_neg fun h => absurd h.1 (by rw [pipe]; exact nofun), ← driftT]
      exact others
  · rcases handed with ⟨plan, -, touch⟩ | ⟨-, judged, -⟩
    · exact .inl ⟨plan.trans c.plan, by rw [touch, touchW]⟩
    · exact .inr (judged.congr (by rw [touchW]) rfl rfl rfl rfl)
  · rcases ends with ⟨pipe, noRow, -⟩ | ⟨r, j, pipe, -⟩
    · exact ⟨emptied pipe, noRow on, by rw [pipe, pipeW]⟩
    · rw [pipe] at idle
      cases idle
  · rcases ends with ⟨pipe, -⟩ | ⟨r, j, pipe, -⟩
    · exact absurd (by rw [pipe, engineW]) busy
    · exact ⟨slotsEmpty_false_of_load (x := snapshot r j) (by rw [pipe]), by rw [pipe]⟩
  · rcases ends with ⟨pipe, -⟩ | ⟨r, j, -, admitted, -⟩
    · rw [pipe, engineW] at running
      cases running
    · exact admitted
  · rcases ends with ⟨pipe, -⟩ | ⟨r, j, pipe, -⟩
    · rw [pipe, engineW]
      decide
    · rw [pipe]
      exact nofun

/-- R96, R56, R162: the engine stops, and the page settles if it can; a change of pattern may start the engine again. -/
theorem stepEnded_becomeIdle (hlt : ∀ r ∈ statusRows u, r < 24) (empty : slotsEmpty u = true)
    (noRow : eligibleRow u = none) (drift : u.touch.driftTimer = none) : StepEnded u (becomeIdle u) := by
  obtain ⟨c, pipeW, touchW⟩ := engineStopped_spec drift
  have changes : Changes workBlocks u (becomeIdle u) := changes_becomeIdle u
  have eq : becomeIdle u = settleCheck (engineStopped u) := rfl
  rw [eq] at changes ⊢
  by_cases can : canSettle (engineStopped u) = true
  · obtain ⟨working, planEmpty, -⟩ := canSettle_iff.mp can
    have settled := resettled_settlePage (u := engineStopped u) (by rwa [statusRows_congr c.start])
      (by rw [slotsEmpty, pipeW]; exact empty) (planEmpty_iff.mp planEmpty)
    rw [settleCheck_of_canSettle can] at changes ⊢
    refine stepEnded_of_stopped empty noRow drift changes (by rw [settled.faults, c.plan]) settled.handed
      (.inr ⟨?_, settled.pattern, empty, fun r => ?_⟩)
    · rw [← c.pattern]
      exact (settled.settles working).congr c.start.symm c.page.symm c.link.symm c.draws.symm
    · rw [settled.jobs, statusRows_congr c.start, c.pattern]
  · rw [settleCheck_of_not_canSettle can] at changes ⊢
    refine stepEnded_of_stopped empty noRow drift changes (by rw [c.plan]) (.inl ⟨rfl, rfl, rfl⟩)
      (.inl ⟨⟨c.page, c.link, c.draws, fun working idle => ?_⟩, c.pattern, c.plan, by rw [touchW]⟩)
    exact Bool.eq_false_iff.mpr fun planEmpty => can (canSettle_iff.mpr ⟨by rw [c.page, working], planEmpty, idle⟩)

theorem stepEnded (hlt : ∀ r ∈ statusRows u, r < 24) (busy : u.pipe.engine ≠ .idle) (timer : u.pipe.stepTimer = some 0)
    (drift : u.touch.driftTimer = none) : StepEnded u (engineCheck (admissionStage u)) := by
  have admits {x : State} (engine : x.pipe.engine = .running) : (admitRow x).pipe.engine = .running ∧
      (admitRow x).pipe = { x.pipe with load := (admitRow x).pipe.load } ∧
      (x.pipe.load ≠ none → (admitRow x).pipe.load = x.pipe.load) := by
    refine ⟨admitRow_engine.trans engine, ?_, fun occupied => ?_⟩
    · rcases admitRow_cases (s := x) with ⟨same, -⟩ | ⟨r, j, -, -, -, eq⟩
      · rw [same]
      · rw [eq]
        rfl
    · rcases admitRow_cases (s := x) with ⟨same, -⟩ | ⟨r, j, load, -⟩
      · rw [same]
      · exact absurd load occupied
  rcases stepEnd_cases busy with ⟨engine, occupied, eq⟩ | ⟨engine, occupied, eq⟩ | ⟨engine, empty, found, eq⟩ |
    ⟨empty, noRow, eq⟩
  · obtain ⟨engine', pipe, load⟩ := admits engine
    rw [eq]
    refine stepEnded_of_busy (by rw [engine']; decide) (changes_admitRow u) occupied ?_ timer drift load
      (fun free _ => admitted_admitRow free) (fun fenced => by rw [engine] at fenced; cases fenced)
      (fun _ => by rw [engine']; decide)
    rw [engine', ← engine]
    exact pipe
  · rw [eq]
    exact stepEnded_of_busy busy (.refl _ _) occupied rfl timer drift (fun _ => rfl)
      (fun _ running => by rw [engine] at running; cases running)
      (fun _ running => by rw [engine] at running; cases running) (fun running => by rw [engine] at running; cases running)
  · let x := u.withPipe { u.pipe with engine := .running }
    obtain ⟨engine', pipe, -⟩ := admits (x := x) rfl
    obtain ⟨loadU, -⟩ := slotsEmpty_iff.mp empty
    have occupied : slotsEmpty (admitRow x) = false := by
      rcases admitRow_cases (s := x) with ⟨-, noRow⟩ | ⟨r, j, -, -, -, eq⟩
      · have : eligibleRow u = none := noRow loadU
        rw [this] at found
        cases found
      · rw [eq]
        exact slotsEmpty_false_of_load rfl
    rw [eq]
    refine stepEnded_of_busy (by rw [engine']; decide) ((changes_withPipe _ _).trans (changes_admitRow x)) occupied ?_ timer
      drift (fun h => absurd loadU h) (fun _ _ => admitted_admitRow (s := x) loadU) (fun _ _ => empty)
      (fun _ => by rw [engine']; decide)
    rw [engine']
    exact pipe
  · rw [eq]
    exact stepEnded_becomeIdle hlt empty noRow drift

end Sys2Proof.Machine
end

section
/-!
The obligations on STEP_TIMER_EXPIRY (R93 to R97): the stages put together.
-/

namespace Sys2Proof.Machine

variable {s t u : State} {c : Settings} {pins : PinSet}

/-- R87, log 5: the step timer runs on from 0, and the pulse of an earlier strike is over. -/
def stepBegun (s : State) : State := s.withPipe { s.pipe with stepTimer := some 0, matrix := none }

/-- R93: the rows moved on, the sense made: the step but for its end. -/
def stagesRun (pins : PinSet) (s : State) : State :=
  loadStage (strikeStage (settleStage (senseStage pins (stepBegun s))))

theorem stepExpires_due (due : Timer.due 6 s.pipe.stepTimer = true) :
    stepExpires pins s = engineCheck (admissionStage (stagesRun pins s)) := if_pos due

theorem busy_of_due (engine : EngineOk s) (due : Timer.due 6 s.pipe.stepTimer = true) :
    s.pipe.engine ≠ .idle ∧ s.touch.driftTimer = none := by
  obtain ⟨step, drift⟩ := engine
  have runs : s.pipe.stepTimer.isSome = true := by
    cases h : s.pipe.stepTimer with
    | none => rw [h] at due; cases due
    | some n => rfl
  have busy := step.mp runs
  refine ⟨busy, ?_⟩
  cases h : s.touch.driftTimer with
  | none => rfl
  | some n => exact absurd (drift.mp (by rw [h]; rfl)).2 busy

/-- R93, R95, R97: the stages of a step, seen from the state that the step finds. -/
structure StagesRun (c : Settings) (s u : State) : Prop where
  changes : Changes [.plan, .shown, .pipe, .touch, .bank, .rail, .link, .draws] s u
  pipe : u.pipe = { s.pipe with
    load := if (stalledRow s.pipe).isSome then s.pipe.load else none
    strike := (stalledRow s.pipe).or ((enteringRow s.pipe).map (fun x => { x with fired := firesNow s x }))
    settle := keepFired s.pipe.strike
    sense := s.pipe.settle
    stepTimer := some 0
    matrix := ((enteringRow s.pipe).filter (firesNow s)).map (fun x => ⟨x.row, x.moves, x.level⟩) }
  touch : u.touch = { s.touch with holdPhase := u.touch.holdPhase }
  paid : match (enteringRow s.pipe).filter (firesNow s) with
    | none => u.bank = s.bank ∧ u.rail = s.rail ∧ u.link = s.link ∧ u.draws = s.draws
    | some x => DemandFollows c (s.withBank { s.bank with charge := s.bank.charge - x.cost }) u

theorem stagesRun_spec (hc : s.start.settings = some c) (busy : s.pipe.engine ≠ .idle)
    (unfired : allUnfired s.pipe.load) : StagesRun c s (stagesRun pins s) := by
  have sensed : SensedRow pins (stepBegun s) (senseStage pins (stepBegun s)) := sensedRow_senseStage pins busy
  have moved : RowsMoved c (senseStage pins (stepBegun s)) (stagesRun pins s) := by
    refine rowsMoved ((congrArg StartUp.settings sensed.changes.start).trans hc) (by rw [sensed.pipe]) ?_
    rw [sensed.pipe]
    exact unfired
  have begun : Changes [.plan, .shown, .pipe, .touch] s (senseStage pins (stepBegun s)) :=
    (changes_withPipe _ _).comp sensed.changes
  have fires : firesNow (senseStage pins (stepBegun s)) = firesNow s := by
    funext x
    rw [firesNow, firesNow, lineClosed_congr (s := s) (by rw [sensed.touch]; rfl), begun.bank]
  have pipe := moved.pipe
  have paid := moved.paid
  rw [fires, sensed.pipe] at pipe paid
  refine ⟨begun.comp moved.changes, ?_, ?_, ?_⟩
  · have matrix := Option.or_none (o := ((enteringRow s.pipe).filter (firesNow s)).map
      (fun x => (⟨x.row, x.moves, x.level⟩ : Pulse)))
    rw [pipe, ← matrix]
    rfl
  · rw [moved.changes.touch, sensed.touch]
    rfl
  · change match (enteringRow s.pipe).filter (firesNow s) with
      | none => Changes [.pipe] (senseStage pins (stepBegun s)) (stagesRun pins s)
      | some x => DemandFollows c ((senseStage pins (stepBegun s)).withBank { (senseStage pins (stepBegun s)).bank with
          charge := (senseStage pins (stepBegun s)).bank.charge - x.cost }) (stagesRun pins s) at paid
    cases hf : (enteringRow s.pipe).filter (firesNow s) with
    | none =>
      rw [hf] at paid
      have c : Changes [.pipe] (senseStage pins (stepBegun s)) (stagesRun pins s) := paid
      exact ⟨c.bank.trans begun.bank, c.rail.trans begun.rail, c.link.trans begun.link, c.draws.trans begun.draws⟩
    | some x =>
      rw [hf] at paid
      exact DemandFollows.congr paid begun.start.symm (by rw [State.withBank_bank, State.withBank_bank, begun.bank])
        begun.rail.symm begun.link.symm begun.draws.symm rfl rfl rfl rfl rfl

/-- R86: stages that leave every slot empty found no row in LOAD, STRIKE or SETTLE. -/
theorem StagesRun.empty (h : StagesRun c s u) (empty : slotsEmpty u = true) :
    s.pipe.load = none ∧ s.pipe.strike = none ∧ s.pipe.settle = none := by
  obtain ⟨load, strike, settle, sense⟩ := slotsEmpty_iff.mp empty
  rw [h.pipe] at load strike settle sense
  have free : s.pipe.strike = none := by
    cases hs : s.pipe.strike with
    | none => rfl
    | some x =>
      rw [stalledRow, hs] at strike
      rw [keepFired, hs] at settle
      cases hf : x.fired <;> simp [Option.filter, hf] at strike settle
  refine ⟨?_, free, sense⟩
  have entering : enteringRow s.pipe = s.pipe.load := by simp [enteringRow, stalledRow, free]
  simpa [stalledRow, free, entering] using strike

/-- R97: a row that fires now keeps STRIKE from being empty. -/
theorem StagesRun.occupied {x : Slot} (h : StagesRun c s u) (fires : (enteringRow s.pipe).filter (firesNow s) = some x) :
    slotsEmpty u = false := by
  refine Bool.eq_false_iff.mpr fun empty => ?_
  obtain ⟨load, strike, -⟩ := h.empty empty
  simp [enteringRow, stalledRow, strike, load] at fires

/-- Settles O41: the stages (`stagesRun_spec`), then the end of the step (`stepEnded`). -/
theorem stepMovesEachRowOneStage : Obligations.StepMovesEachRowOneStage := by
  unfold Obligations.StepMovesEachRowOneStage
  intro sensed s c running hc
  have exec_eq : exec (.stepTimerExpiry sensed) s = .next (stepExpires sensed s) := whenRunning_running running
  refine ⟨fun notDue => ?_, fun due start engine slots bank => ?_⟩
  · have same : stepExpires sensed s = s := if_neg (by simp [stepPeriod, notDue])
    rw [exec_eq, same]
  obtain ⟨busy, drift⟩ := busy_of_due engine due
  obtain ⟨-, off, unfired, -⟩ := slots
  have stages : StagesRun c s (stagesRun sensed s) := stagesRun_spec hc busy unfired
  have changed : Changes stepBlocks s (stepExpires sensed s) := changes_stepExpires sensed s
  rw [stepExpires_due due] at exec_eq changed
  generalize stagesRun sensed s = u at *
  have start_u := stages.changes.start
  have on : onTheLink u = true := by
    rw [onTheLink_congr start_u]
    exact Bool.not_eq_false _ ▸ fun h => busy (off h)
  have ended : StepEnded u (engineCheck (admissionStage u)) :=
    stepEnded (by rw [statusRows_congr start_u]; exact statusRows_lt start) (by rw [stages.pipe]; exact busy)
      (by rw [stages.pipe]) (by rw [stages.touch]; exact drift)
  generalize engineCheck (admissionStage u) = t at *
  have pipe := ended.pipe
  have engineU : u.pipe.engine = s.pipe.engine := by rw [stages.pipe]
  refine ⟨t, exec_eq, changed.mono (by decide), ?_, ?_, ?_, ?_, ?_, ?_, ?_, ?_, ?_⟩
  · rw [pipe, stages.pipe]
  · rw [pipe, stages.pipe]
  · have loadU : u.pipe.load = if (stalledRow s.pipe).isSome then s.pipe.load else none := by rw [stages.pipe]
    have admits : t.pipe.engine = .running → ¬ ((stalledRow s.pipe).isSome = true ∧ s.pipe.load.isSome = true) →
        Admitted t := fun runs h => ended.admitted (by
      rw [loadU]
      split
      · rename_i stalled
        exact Option.not_isSome_iff_eq_none.mp fun load => h ⟨stalled, load⟩
      · rfl) runs
    have keeps : (stalledRow s.pipe).isSome = true → s.pipe.load.isSome = true → t.pipe.load = s.pipe.load := by
      intro stalled load
      rw [if_pos stalled] at loadU
      rw [ended.load (by rw [loadU]; exact Option.isSome_iff_ne_none.mp load), loadU]
    change t.pipe.strike = (stalledRow s.pipe).or ((enteringRow s.pipe).map (fun x => { x with fired := firesNow s x })) ∧
      t.pipe.matrix = ((enteringRow s.pipe).filter (firesNow s)).map (fun x => ⟨x.row, x.moves, x.level⟩) ∧
      t.bank.charge = s.bank.charge - (((enteringRow s.pipe).filter (firesNow s)).map (·.cost)).getD 0 ∧
      t.bank.railTimer = s.bank.railTimer ∧ t.bank.transfer = s.bank.transfer ∧
      t.bank.lastAnnounced = s.bank.lastAnnounced ∧ BankOk t ∧ _ ∧ _ ∧
      match (enteringRow s.pipe).filter (firesNow s) with
      | some x => DemandFollows c (s.withBank { s.bank with charge := s.bank.charge - x.cost }) t ∧ t.page = s.page ∧
          t.pattern = s.pattern
      | none => t.bank = s.bank ∧ t.rail = s.rail ∧ ((NotSettled s t ∧ t.pattern = s.pattern) ∨
          (Settles s.pattern s t ∧ t.pattern = patternOf t ∧ s.pipe.load = none ∧ s.pipe.strike = none ∧
            s.pipe.settle = none))
    have bankT : t.bank = u.bank := ended.changes.bank
    have railT : t.rail = u.rail := ended.changes.rail
    have paid := stages.paid
    refine ⟨by rw [pipe, stages.pipe], by rw [pipe, stages.pipe], ?_⟩
    cases hf : (enteringRow s.pipe).filter (firesNow s) with
    | none =>
      rw [hf] at paid
      obtain ⟨bankU, railU, linkU, drawsU⟩ := paid
      have same := bankT.trans bankU
      refine ⟨by rw [same]; rfl, by rw [same], by rw [same], by rw [same], by rw [BankOk, same]; exact bank, keeps, admits,
        same, railT.trans railU, ?_⟩
      have pageU := stages.changes.page
      have patternU := stages.changes.pattern
      rcases ended.outcome with ⟨still, pattern, -⟩ | ⟨settles, right, empty, -⟩
      · exact .inl ⟨still.congr pageU.symm linkU.symm drawsU.symm, pattern.trans patternU⟩
      · rw [patternU] at settles
        exact .inr ⟨settles.congr start_u.symm pageU.symm linkU.symm drawsU.symm, right, stages.empty empty⟩
    | some x =>
      rw [hf] at paid
      have occupied := stages.occupied hf
      rcases ended.outcome with ⟨⟨page, link, draws, -⟩, pattern, -⟩ | ⟨-, -, empty, -⟩
      · have follows : DemandFollows c (s.withBank { s.bank with charge := s.bank.charge - x.cost }) t :=
          DemandFollows.congr paid rfl rfl rfl rfl rfl (by rw [ended.changes.start]) bankT railT link draws
        have bank' := follows.1
        exact ⟨congrArg Bank.charge bank', (congrArg Bank.railTimer bank').trans rfl,
          (congrArg Bank.transfer bank').trans rfl, (congrArg Bank.lastAnnounced bank').trans rfl,
          bankOk_follows follows ((Nat.sub_le _ _).trans bank.1), keeps, admits, follows, page.trans stages.changes.page,
          pattern.trans stages.changes.pattern⟩
      · rw [occupied] at empty
        cases empty
  · intro fenced occupied runs
    exact (stages.empty (ended.lifted (engineU.trans fenced) runs)).2.symm
  · exact fun runs => ended.unfenced (engineU.trans runs)
  · exact fun fenced => (ended.busy (by rw [fenced]; exact nofun)).1
  · exact ended.idle on
  · exact ended.busy
  · have touch := ended.touch
    rw [stages.touch, start_u] at touch
    exact touch

/-- R87: the stages leave the engine state and the step timer. -/
theorem clock_settleStage (s : State) :
    ((settleStage s).pipe.engine, (settleStage s).pipe.stepTimer) = (s.pipe.engine, s.pipe.stepTimer) := by
  unfold settleStage
  split <;> rfl

theorem clock_strikeStage (s : State) :
    ((strikeStage s).pipe.engine, (strikeStage s).pipe.stepTimer) = (s.pipe.engine, s.pipe.stepTimer) := by
  unfold strikeStage
  split
  · rfl
  · split <;> rfl

theorem clock_loadStage (s : State) :
    ((loadStage s).pipe.engine, (loadStage s).pipe.stepTimer) = (s.pipe.engine, s.pipe.stepTimer) := by
  unfold loadStage
  split
  · rw [tryFire_pipe _ rfl]
    split <;> rfl
  · rfl

/-- R76: the recompute leaves the jobs of the other rows. -/
theorem jobAt_recomputeRow_other {r r' : Nat} (h : r' ≠ r) (m : Moves) (a : Nat) (v : Bool) :
    jobAt (recomputeRow r m a v s) r' = jobAt s r' := by
  have judged (x : State) : jobAt (recomputeJob r m a x) r' = jobAt x r' := by
    unfold recomputeJob
    dsimp only
    split
    · exact jobAt_removeJob_other h
    · split
      · split
        · exact jobAt_writeJob_other h _ _
        · exact jobAt_removeJob_other h
      · exact jobAt_writeJob_other h _ _
  cases v with
  | false => exact judged (markWeak r (movedHome s r m a) s)
  | true =>
    show jobAt (recomputeVoided r m a s) r' = _
    unfold recomputeVoided
    dsimp only
    split
    · exact jobAt_removeJob_other h
    · split <;> exact jobAt_writeJob_other h _ _

/-- Settles O42: SHOWN, the fault map and the plan are those of the sense (`sensedRow_senseStage`), which the stages after
it leave alone and the end of the step replaces only at a settle. -/
theorem stepSensesTheSenseRow : Obligations.StepSensesTheSenseRow := by
  unfold Obligations.StepSensesTheSenseRow
  intro sensed s running due start engine sizes
  have exec_eq : exec (.stepTimerExpiry sensed) s = .next (stepExpires sensed s) := whenRunning_running running
  obtain ⟨busy, drift⟩ := busy_of_due engine due
  have sense : SensedRow sensed (stepBegun s) (senseStage sensed (stepBegun s)) := sensedRow_senseStage sensed busy
  have moved : Changes [.pipe, .bank, .rail, .link, .draws] (senseStage sensed (stepBegun s)) (stagesRun sensed s) :=
    (((changes_settleStage _).trans (changes_strikeStage _)).mono (by decide)).trans (changes_loadStage _)
  have engineU : (stagesRun sensed s).pipe.engine = s.pipe.engine ∧ (stagesRun sensed s).pipe.stepTimer = some 0 := by
    have clock := clock_loadStage (strikeStage (settleStage (senseStage sensed (stepBegun s))))
    rw [clock_strikeStage, clock_settleStage, sense.pipe] at clock
    exact Prod.mk.inj clock
  have start_u : (stagesRun sensed s).start = s.start := moved.start.trans sense.changes.start
  have ended : StepEnded (stagesRun sensed s) (engineCheck (admissionStage (stagesRun sensed s))) :=
    stepEnded (by rw [statusRows_congr start_u]; exact statusRows_lt start) (by rw [engineU.1]; exact busy) engineU.2
      (by rw [moved.touch, sense.touch]; exact drift)
  rw [stepExpires_due due] at exec_eq
  generalize stagesRun sensed s = u at *
  generalize engineCheck (admissionStage u) = t at *
  have page_u : u.page = s.page := moved.page.trans sense.changes.page
  have shown : t.shown = (senseStage sensed (stepBegun s)).shown := ended.changes.shown.trans moved.shown
  have faults : t.plan.faults = (senseStage sensed (stepBegun s)).plan.faults := by rw [ended.faults, moved.plan]
  have unsettled (same : t.page = s.page) : t.plan = (senseStage sensed (stepBegun s)).plan ∧
      t.touch.holdPhase = (senseStage sensed (stepBegun s)).touch.holdPhase := by
    rcases ended.outcome with ⟨-, -, plan, phase⟩ | ⟨⟨n, -, working, page, -⟩, -⟩
    · exact ⟨plan.trans moved.plan, by rw [phase, moved.touch]⟩
    · rw [same, ← page_u] at page
      rw [page] at working
      cases working
  refine ⟨t, exec_eq, ?_, fun changed r => ?_⟩
  · have outcome := sense.outcome
    cases row : s.pipe.sense with
    | none =>
      rw [show (stepBegun s).pipe.sense = none from row] at outcome
      rw [show senseStage sensed (stepBegun s) = stepBegun s from outcome] at shown faults unsettled
      exact ⟨shown, faults, unsettled⟩
    | some x =>
      rw [show (stepBegun s).pipe.sense = some x from row] at outcome
      obtain ⟨sensedShown, sensedPlan, judged⟩ := outcome
      have begun : senseRow x.row sensed (stepBegun s) = (senseRow x.row sensed s).withPipe (stepBegun s).pipe := rfl
      have closed : lineClosed (stepBegun s) (x.row / 4) = lineClosed s (x.row / 4) := rfl
      rw [closed, begun, recomputeRow_withPipe, State.withPipe_plan] at sensedPlan
      rw [sensedShown] at shown
      obtain ⟨-, -, shownSize, -⟩ := sizes
      refine ⟨fun r p hr hp => ?_, ?_, ?_, ⟨_, rfl, ?_, fun same => ?_⟩, fun same r other => ?_⟩
      · rw [shown]
        exact pinUp_senseRow (s := s) sensed shownSize hr hp
      · rw [shown]
        exact length_writeRow _ _ _ _
      · have judged_u : HoldJudged s u :=
          judged.congr rfl moved.start moved.plan (by rw [moved.touch]) (by rw [moved.touch])
        rcases ended.hold with ⟨plan, phase⟩ | again
        · exact judged_u.congr rfl ended.changes.start plan (by rw [ended.touch]) phase
        · exact judged_u.trans again
      · rw [faults, sensedPlan]
      · rw [jobAt_congr ((unsettled same).1.trans sensedPlan)]
      · rw [jobAt_congr ((unsettled same).1.trans sensedPlan)]
        exact jobAt_recomputeRow_other other _ _ _
  · rcases ended.outcome with ⟨⟨page, -⟩, -⟩ | ⟨-, -, -, jobs⟩
    · exact absurd (page.trans page_u) changed
    · have pattern_u : u.pattern = s.pattern := moved.pattern.trans sense.changes.pattern
      rw [jobs, statusRows_congr start_u, pattern_u]

end Sys2Proof.Machine
end

section
/-!
What outlives a page (R61, R192): the bank charge, SHOWN, the settings in force and the fault map, and the operations
that keep the four of them.
-/

namespace Sys2Proof.Machine

/-- The bank charge, SHOWN and the settings in force are kept. -/
structure Spared (s t : State) : Prop where
  charge : t.bank.charge = s.bank.charge
  shown : t.shown = s.shown
  settings : t.start.settings = s.start.settings

/-- With them the fault map is kept. -/
structure Outlasts (s t : State) : Prop extends Spared s t where
  faults : t.plan.faults = s.plan.faults

section
variable {s t u : State}

theorem Spared.of_changes {bs : List Block} (c : Changes bs s t)
    (h : Block.bank ∉ bs ∧ Block.shown ∉ bs ∧ Block.start ∉ bs := by decide) : Spared s t :=
  ⟨congrArg Bank.charge (c .bank h.1), c .shown h.2.1, congrArg StartUp.settings (c .start h.2.2)⟩

theorem Spared.trans (h : Spared s t) (g : Spared t u) : Spared s u :=
  ⟨g.charge.trans h.charge, g.shown.trans h.shown, g.settings.trans h.settings⟩

theorem Outlasts.trans (h : Outlasts s t) (g : Outlasts t u) : Outlasts s u :=
  ⟨h.toSpared.trans g.toSpared, g.faults.trans h.faults⟩

theorem Outlasts.refl : Outlasts s s := ⟨⟨rfl, rfl, rfl⟩, rfl⟩

theorem Outlasts.of_changes {bs : List Block} (c : Changes bs s t)
    (h : Block.plan ∉ bs ∧ Block.bank ∉ bs ∧ Block.shown ∉ bs ∧ Block.start ∉ bs := by decide) : Outlasts s t :=
  ⟨.of_changes c h.2, congrArg Plan.faults (c .plan h.1)⟩

theorem Outlasts.andThen {bs : List Block} (h : Outlasts s t) (c : Changes bs t u)
    (hb : Block.plan ∉ bs ∧ Block.bank ∉ bs ∧ Block.shown ∉ bs ∧ Block.start ∉ bs := by decide) : Outlasts s u :=
  h.trans (.of_changes c hb)

/-! ### Page work -/

theorem outlasts_planNotices : Outlasts s (planNotices s) :=
  ⟨.of_changes (changes_planNotices s), (workKept_planNotices s).faults⟩

theorem outlasts_settleCheck : Outlasts s (settleCheck s) :=
  ⟨.of_changes (changes_settleCheck s), (workKept_settleCheck s).faults⟩

theorem outlasts_recomputePattern : Outlasts s (recomputePattern s) :=
  ⟨.of_changes (changes_recomputePattern s), (workKept_recomputePattern s).faults⟩

theorem outlasts_refreshRows (rows : List Nat) : Outlasts s (refreshRows rows s) :=
  ⟨.of_changes (changes_refreshRows rows s), refreshRows_faults s rows⟩

theorem outlasts_rebuildPlan : Outlasts s (rebuildPlan s) :=
  ⟨.of_changes (changes_rebuildPlan s), rebuildPlan_faults s⟩

theorem outlasts_startWork : Outlasts s (startWork s) :=
  have begun : Outlasts s (workBegun s) := .of_changes (changes_withPage _ _)
  have held : Outlasts s (fence (setPattern (restartHold (workBegun s)))) :=
    ((begun.andThen (changes_withTouch _ _)).andThen (changes_setPattern _)).andThen (changes_fence _)
  held.trans <| outlasts_rebuildPlan.trans <| outlasts_planNotices.trans outlasts_settleCheck

theorem outlasts_pageReset : Outlasts s (pageReset s) := by
  have cleared : Outlasts s (fence (setPattern (stopHold (clearPage s)))) :=
    ((Outlasts.refl.andThen (changes_withPage _ _)).andThen (changes_withTouch _ _) |>.andThen
      (changes_setPattern _)).andThen (changes_fence _)
  have emptied (u : State) : Outlasts u (emptyPlan u) := ⟨.of_changes (changes_emptyPlan u), rfl⟩
  exact cleared.trans <| (emptied _).trans <| (outlasts_refreshRows _).trans outlasts_planNotices

/-! ### The start-up logic and the charge bank -/

theorem outlasts_enterListening : Outlasts s (enterListening s) := by
  have entered : Outlasts s (((s.withStart { s.start with life := .listening, joinTimer := some 0 }).withTouch
      { s.touch with driftTimer := none }).withBank
        { s.bank with railTimer := some (s.bank.railTimer.getD 0) }) := ⟨⟨rfl, rfl, rfl⟩, rfl⟩
  exact (((entered.andThen (changes_withRail _ _)).andThen (changes_enqueueAnnounce _ _)).andThen
    (changes_recomputeAllowance _)).andThen (changes_lookForRow _)

theorem outlasts_enterJoined : Outlasts s (enterJoined s) := by
  have joined : Outlasts s (s.withStart { s.start with life := .joined, joinTimer := none }) := ⟨⟨rfl, rfl, rfl⟩, rfl⟩
  exact (((joined.andThen (changes_tryContend _)).andThen (changes_recomputeAllowance _)).andThen
    (changes_judgeRise _)).andThen (changes_startDrift _)

theorem outlasts_linkReset : Outlasts s (linkReset s) := by
  have shareReset : Outlasts (resetLinkControl (pageReset s)) (resetRailShare (resetLinkControl (pageReset s))) :=
    .trans (.of_changes (changes_withRail _ _)) (.trans outlasts_recomputePattern (.of_changes (changes_withRail _ _)))
  have reset : Outlasts s (resetRailShare (resetLinkControl (pageReset s))) :=
    outlasts_pageReset.trans (.trans (.of_changes (changes_withLink _ _)) shareReset)
  unfold linkReset
  generalize resetRailShare (resetLinkControl (pageReset s)) = u at reset
  have zeroed : Outlasts u ((u.withBank { u.bank with lastAnnounced := 0 }).withTouch { u.touch with rotation := 0 }) :=
    ⟨⟨rfl, rfl, rfl⟩, rfl⟩
  exact reset.trans (zeroed.trans outlasts_enterListening)

theorem outlasts_completeAttempt (o : OnLine) : Outlasts s (completeAttempt o s) := by
  unfold completeAttempt
  dsimp only
  split
  · exact .of_changes (changes_withLink _ _)
  · rename_i d _
    have announced (u : State) : Outlasts u (u.withBank { u.bank with lastAnnounced := d }) := ⟨⟨rfl, rfl, rfl⟩, rfl⟩
    exact (((Outlasts.refl.andThen (changes_withLink _ _)).trans (announced _)).andThen (changes_judgeRise _)).andThen
      (changes_announceDemand _)

/-! ### Frames and the touch guard -/

theorem outlasts_takeTurn (serial total : Half) : Outlasts s (takeTurn serial total s) := by
  unfold takeTurn
  split
  · exact .of_changes (changes_turnElsewhere _ _)
  · split
    · exact .of_changes (changes_turnElsewhere _ _)
    · split
      · exact .trans (.of_changes (changes_withPage _ _)) outlasts_startWork
      · exact .of_changes (changes_announce _ _ _ _)

/-- R177: of the queries CLEAR_FAULTS alone changes the fault map. -/
theorem outlasts_answerQuery {tag kind : Byte} {arg : List Byte} (other : kind ≠ 5) :
    Outlasts s (answerQuery tag kind arg s) := by
  have action : Outlasts s (queryAction (classify kind arg) s) := by
    have notClear : classify kind arg ≠ .clearFaults := by
      intro clear
      refine other (BitVec.eq_of_toNat_eq (y := 5#8) ?_)
      unfold classify at clear
      have noArg (q : QueryCase) (h : noArgument arg q = .clearFaults) : q = .clearFaults := by
        cases arg with
        | nil => exact h
        | cons => exact nomatch h
      split at clear
      · split at clear
        · exact nomatch clear
        · split at clear <;> exact nomatch clear
      · split at clear
        · exact nomatch clear
        · split at clear <;> exact nomatch clear
      · split at clear <;> exact nomatch clear
      · exact nomatch noArg _ clear
      · assumption
      · exact nomatch noArg _ clear
      · exact nomatch noArg _ clear
      · exact nomatch clear
    generalize classify kind arg = q at notClear
    unfold queryAction
    split
    · exact .trans (.of_changes (changes_withPage _ _)) outlasts_startWork
    · exact absurd rfl notClear
    · exact .of_changes (changes_zeroCounters s)
    · exact .refl
  exact action.trans (.of_changes (changes_enqueueReply _ _))

theorem outlasts_takeSettled (sender : Byte) (serial : Half) (outcome : Byte) :
    Outlasts s (takeSettled sender serial outcome s) := by
  unfold takeSettled
  split
  · exact .trans (.of_changes (changes_withRail _ _)) outlasts_recomputePattern
  · exact .refl

theorem outlasts_takeDraw (sender demand : Byte) (serial : Half) (outcome : Byte) :
    Outlasts s (takeDraw sender demand serial outcome s) :=
  .trans (.of_changes (changes_withRail _ _))
    (outlasts_recomputePattern.trans (.of_changes (changes_recomputeAllowance _)))

theorem outlasts_expireEntry (a : Byte) : Outlasts s (expireEntry a s) := by
  unfold expireEntry
  split
  · exact .trans (.of_changes (changes_withRail _ _))
      (outlasts_recomputePattern.trans (.of_changes (changes_recomputeAllowance _)))
  · exact .refl

/-- R23: a frame delivered to its block, but for the CLEAR_FAULTS query (kind 5). -/
theorem outlasts_deliver {sender : Byte} {b : Body} (other : ∀ target tag arg, b ≠ .query target tag 5 arg) :
    Outlasts s (deliver sender b s) := by
  cases b with
  | page serial mode => exact .of_changes (changes_takePage _ _ _)
  | content serial seq line first cells => exact .of_changes (changes_takeContent _ _ _ _ _ _)
  | turn serial total => exact outlasts_takeTurn _ _
  | settled serial outcome detail => exact outlasts_takeSettled _ _ _
  | draw demand fl lc fc cc ps serial outcome => exact outlasts_takeDraw _ _ _ _
  | query target tag kind arg =>
    show Outlasts s (if _ then _ else _)
    split
    · unfold takeQuery
      split
      · exact outlasts_answerQuery fun h => other target tag arg (by rw [h])
      · exact .refl
    · exact .refl
  | reply tag outcome kind code data => exact .refl
  | reset target scope =>
    show Outlasts s (takeReset _ _ _)
    unfold takeReset
    split
    · split
      · exact outlasts_pageReset
      · exact outlasts_linkReset
    · exact .refl

theorem spared_deliver (sender : Byte) (b : Body) : Spared s (deliver sender b s) := by
  cases b with
  | query target tag kind arg =>
    show Spared s (if _ then _ else _)
    split
    · exact .of_changes (changes_takeQuery _ _ _ _ _)
    · exact Outlasts.refl.toSpared
  | page | content | turn | settled | draw | reply | reset => exact (outlasts_deliver (fun _ _ _ => by exact nofun)).toSpared

/-- R20 to R23: a verdict acted on, by what the delivery of its body does. -/
theorem actOnVerdict_of_deliver {R : State → State → Prop} {v : Verdict} (linkOnly : ∀ {u}, Changes [.link] s u → R s u)
    (delivered : ∀ a b, v = .good a b → R s (deliver a b s)) : R s (actOnVerdict v s) := by
  cases v with
  | crcError | malformed | unknownKind => exact linkOnly (changes_count _ _)
  | good a b =>
    show R s (acceptFrame a b s)
    unfold acceptFrame
    split
    · exact linkOnly ((changes_withLink _ _).trans (changes_count _ _))
    · exact delivered a b rfl

theorem outlasts_receiveBody {sender : Byte} {b : Body} (other : ∀ target tag arg, b ≠ .query target tag 5 arg) :
    Outlasts s (receiveBody sender b s) := by
  have busy : Outlasts s (lineBusy s) := .of_changes (changes_lineBusy s)
  cases on : onTheLink s with
  | false => rw [receiveBody_off _ _ on]; exact busy
  | true =>
    rw [receiveBody_on _ _ on]
    refine busy.trans (actOnVerdict_of_deliver (fun c => .of_changes c) fun a b' good => outlasts_deliver ?_)
    unfold judgeParsed at good
    split at good
    · cases good
    · split at good <;> cases good
      exact other

theorem spared_receiveBody (sender : Byte) (b : Body) : Spared s (receiveBody sender b s) := by
  have busy : Spared s (lineBusy s) := .of_changes (changes_lineBusy s)
  cases on : onTheLink s with
  | false => rw [receiveBody_off _ _ on]; exact busy
  | true =>
    rw [receiveBody_on _ _ on]
    exact busy.trans (actOnVerdict_of_deliver (fun c => .of_changes c) fun a b' _ => spared_deliver a b')

theorem spared_receiveHeard (h : Heard) : Spared s (receiveHeard h s) := by
  unfold receiveHeard
  split
  · exact Outlasts.refl.toSpared
  · have busy : Spared s (lineBusy s) := .of_changes (changes_lineBusy s)
    unfold hearFrame
    split
    · exact busy.trans (actOnVerdict_of_deliver (fun c => .of_changes c) fun a b' _ => spared_deliver a b')
    · exact busy

theorem outlasts_stripFails (l : Nat) : Outlasts s (stripFails l s) := by
  unfold stripFails
  split
  · have failed (u : State) (x : Touch) : Outlasts u (recomputePattern (u.withTouch x)) :=
      .trans (.of_changes (changes_withTouch _ _)) outlasts_recomputePattern
    dsimp only
    split
    · exact (failed _ _).trans (.of_changes (changes_lineOpens _))
    · exact failed _ _
  · exact .refl

theorem outlasts_holdExpires : Outlasts s (holdExpires s) := by
  unfold holdExpires
  split
  · unfold holdReport
    split
    · exact .trans (.of_changes (changes_withTouch _ _)) (.trans (.of_changes (changes_withPage _ _))
        (.trans (.of_changes (changes_announce _ _ _ _)) outlasts_recomputePattern))
    · exact .of_changes (changes_withTouch _ _)
  · exact .refl

theorem outlasts_lineComesUp : Outlasts s (lineComesUp s) := by
  unfold lineComesUp
  split
  · exact .refl
  · exact (((Outlasts.refl.andThen (changes_withLink _ _)).andThen (changes_recomputeAllowance _)).trans
      outlasts_recomputePattern).andThen (changes_tryContend _)

theorem outlasts_lineGoesDown : Outlasts s (lineGoesDown s) := by
  unfold lineGoesDown
  split
  · exact ((((Outlasts.refl.andThen (changes_cutOff s)).andThen (changes_withLink _ _))).andThen
      (changes_recomputeAllowance _)).trans outlasts_recomputePattern
  · exact .refl

/-! ### Sensing: SHOWN changes, the fault map does not -/

/-- R152: the drift scan recomputes no row: it refreshes the rows of its line. -/
theorem faults_driftExpires (a b c d : PinSet) : (driftExpires a b c d s).plan.faults = s.plan.faults := by
  unfold driftExpires
  split
  · dsimp only
    split
    · rfl
    · unfold scanLine
      dsimp only
      exact outlasts_planNotices.faults.trans (outlasts_refreshRows _).faults
  · rfl

theorem faults_finishScan (x : Vector PinSet 24) : (finishScan x s).plan.faults = s.plan.faults := by
  rw [finishScan_eq]
  calc _ = (planNotices (refreshRows (statusRows (copiedScan x s)) (copiedScan x s))).plan.faults :=
        outlasts_enterListening.faults
    _ = (copiedScan x s).plan.faults := ((outlasts_refreshRows _).trans outlasts_planNotices).faults
    _ = s.plan.faults := congrArg Plan.faults (changes_scanImage s x).plan

theorem finishScan_settings_charge (x : Vector PinSet 24) :
    (finishScan x s).start.settings = s.start.settings ∧ (finishScan x s).bank.charge = s.bank.charge := by
  rw [finishScan_eq]
  have noted := ((outlasts_refreshRows (s := copiedScan x s) (statusRows (copiedScan x s))).trans
    outlasts_planNotices).trans outlasts_enterListening
  exact ⟨noted.settings.trans (congrArg StartUp.settings (changes_scanImage s x).start),
    noted.charge.trans (congrArg Bank.charge (changes_scanImage s x).bank)⟩

end

end Sys2Proof.Machine
end

section
/-!
The commands that can change what outlives a page (O55).
-/

namespace Sys2Proof.Machine

section
variable {s t : State}

/-- R182: what a running part does, or nothing. -/
theorem whenRunning_keeps {R : State → State → Prop} {f : State → State} (refl : R s s) (run : R s (f s))
    (h : whenRunning s f = .next t) : R s t := by
  unfold whenRunning at h
  split at h <;> cases h
  · exact refl
  · exact run

theorem whileSending_keeps {R : State → State → Prop} {f : OnLine → State → State} (refl : R s s)
    (run : ∀ o, R s (f o s)) : R s (whileSending f s) := by
  unfold whileSending
  split
  · exact refl
  · split
    · exact run _
    · exact refl

theorem whileJamming_keeps {R : State → State → Prop} {f : OnLine → State → State} (refl : R s s)
    (run : ∀ o, R s (f o s)) : R s (whileJamming f s) := by
  unfold whileJamming
  split
  · exact refl
  · split
    · exact run _
    · exact refl

/-- A frame row, but for the CLEAR_FAULTS query, keeps what outlives a page. -/
theorem outlasts_of_frameOf {c : Instr} {sender : Byte} {b : Body} (hc : frameOf c = some (sender, b))
    (other : ∀ target tag arg, b ≠ .query target tag 5 arg) (h : exec c s = .next t) : Outlasts s t := by
  rw [exec_of_frameOf hc] at h
  exact whenRunning_keeps .refl (outlasts_receiveBody other) h

theorem spared_of_frameOf {c : Instr} {sender : Byte} {b : Body} (hc : frameOf c = some (sender, b))
    (h : exec c s = .next t) : Spared s t := by
  rw [exec_of_frameOf hc] at h
  exact whenRunning_keeps Outlasts.refl.toSpared (spared_receiveBody sender b) h

theorem outlasts_refreshExpires : Outlasts s (refreshExpires s) := by
  unfold refreshExpires
  split
  · exact (Outlasts.refl.andThen (changes_withRail _ _)).andThen (changes_enqueueAnnounce _ _)
  · exact .refl

theorem outlasts_riseExpires : Outlasts s (riseExpires s) := by
  unfold riseExpires
  split
  · exact .refl
  · split
    · exact .refl
    · split
      · exact .of_changes (changes_withRail _ _)
      · exact .refl

/-- What the obligation says of one command. -/
def ChangesWhatOutlives (c : Instr) (s t : State) : Prop :=
  (t.bank.charge ≠ s.bank.charge → c = .railPeriod ∨ ∃ x, c = .stepTimerExpiry x) ∧
    (t.shown ≠ s.shown → (∃ x, c = .stepTimerExpiry x) ∨ (∃ a b d e, c = .driftTimerExpiry a b d e) ∨
      (∃ x, c = .scanComplete x) ∨ ∃ m x, c = .endOfConfig m x) ∧
    (t.start.settings ≠ s.start.settings → s.start.life = .config ∧ ∃ m x, c = .endOfConfig m x) ∧
    (t.plan.faults ≠ s.plan.faults → (∃ x, c = .stepTimerExpiry x) ∨ (∃ m x, c = .endOfConfig m x) ∨
      (∃ h, c = .discardedFrame h) ∨ ∃ sender target tag arg, frameOf c = some (sender, .query target tag 5 arg))

theorem Outlasts.changes {c : Instr} (h : Outlasts s t) : ChangesWhatOutlives c s t :=
  ⟨fun n => absurd h.charge n, fun n => absurd h.shown n, fun n => absurd h.settings n, fun n => absurd h.faults n⟩

/-- A query row: kind 5 alone may change the fault map. -/
theorem changesWhatOutlives_of_query {c : Instr} {sender target tag kind : Byte} {arg : List Byte}
    (hc : frameOf c = some (sender, .query target tag kind arg)) (h : exec c s = .next t) :
    ChangesWhatOutlives c s t := by
  by_cases clear : kind = 5
  · subst clear
    have spared := spared_of_frameOf hc h
    exact ⟨fun n => absurd spared.charge n, fun n => absurd spared.shown n, fun n => absurd spared.settings n,
      fun _ => .inr (.inr (.inr ⟨_, _, _, _, hc⟩))⟩
  · refine (outlasts_of_frameOf hc (fun _ _ _ same => clear ?_) h).changes
    injection same

theorem changesWhatOutlives_endOfConfig {memory : List Byte} {strips : BitVec 6}
    (h : exec (.endOfConfig memory strips) s = .next t) : ChangesWhatOutlives (.endOfConfig memory strips) s t := by
  refine whenRunning_keeps (f := fun s => if s.start.life = .config then endConfig memory strips s else s)
    Outlasts.refl.changes ?_ h
  split
  · rename_i config
    exact ⟨fun n => absurd rfl n, fun _ => .inr (.inr (.inr ⟨_, _, rfl⟩)), fun _ => ⟨config, _, _, rfl⟩,
      fun _ => .inr (.inl ⟨_, _, rfl⟩)⟩
  · exact Outlasts.refl.changes

theorem changesWhatOutlives_scanComplete {sensed : Vector PinSet 24} (h : exec (.scanComplete sensed) s = .next t) :
    ChangesWhatOutlives (.scanComplete sensed) s t := by
  refine whenRunning_keeps (f := fun s => if s.start.life = .scan then finishScan sensed s else s)
    Outlasts.refl.changes ?_ h
  split
  · obtain ⟨settings, charge⟩ := finishScan_settings_charge (s := s) sensed
    exact ⟨fun n => absurd charge n, fun _ => .inr (.inr (.inl ⟨_, rfl⟩)), fun n => absurd settings n,
      fun n => absurd (faults_finishScan sensed) n⟩
  · exact Outlasts.refl.changes

theorem changesWhatOutlives_stepTimer {x : PinSet} (h : exec (.stepTimerExpiry x) s = .next t) :
    ChangesWhatOutlives (.stepTimerExpiry x) s t := by
  refine whenRunning_keeps (f := stepExpires x) Outlasts.refl.changes ?_ h
  exact ⟨fun _ => .inr ⟨_, rfl⟩, fun _ => .inl ⟨_, rfl⟩,
    fun n => absurd (congrArg StartUp.settings (changes_stepExpires x s).start) n, fun _ => .inl ⟨_, rfl⟩⟩

theorem changesWhatOutlives_railPeriod (h : exec .railPeriod s = .next t) : ChangesWhatOutlives .railPeriod s t := by
  refine whenRunning_keeps (f := railExpires) Outlasts.refl.changes ?_ h
  have kept := changes_railExpires s
  exact ⟨fun _ => .inl rfl, fun n => absurd kept.shown n, fun n => absurd (congrArg StartUp.settings kept.start) n,
    fun n => absurd (congrArg Plan.faults kept.plan) n⟩

theorem changesWhatOutlives_driftTimer {a b d e : PinSet} (h : exec (.driftTimerExpiry a b d e) s = .next t) :
    ChangesWhatOutlives (.driftTimerExpiry a b d e) s t := by
  refine whenRunning_keeps (f := driftExpires a b d e) Outlasts.refl.changes ?_ h
  have kept := changes_driftExpires a b d e s
  exact ⟨fun n => absurd (congrArg Bank.charge kept.bank) n, fun _ => .inr (.inl ⟨_, _, _, _, rfl⟩),
    fun n => absurd (congrArg StartUp.settings kept.start) n, fun n => absurd (faults_driftExpires a b d e) n⟩

/-- A frame of the line's readings may be a CLEAR_FAULTS query (log 9). -/
theorem changesWhatOutlives_discardedFrame {heard : Heard} (h : exec (.discardedFrame heard) s = .next t) :
    ChangesWhatOutlives (.discardedFrame heard) s t := by
  refine whenRunning_keeps (f := receiveHeard heard) Outlasts.refl.changes ?_ h
  have spared := spared_receiveHeard (s := s) heard
  exact ⟨fun n => absurd spared.charge n, fun n => absurd spared.shown n, fun n => absurd spared.settings n,
    fun _ => .inr (.inr (.inl ⟨_, rfl⟩))⟩

theorem changesWhatOutlives_of_run {c : Instr} {f : State → State} (hf : Outlasts s (f s))
    (h : whenRunning s f = .next t) : ChangesWhatOutlives c s t :=
  whenRunning_keeps Outlasts.refl.changes hf.changes h

end

/-- Settles O55: command by command, by what its operation keeps; of the frames a CLEAR_FAULTS query alone reaches the
fault map. -/
theorem onlyTheseCommandsChangeWhatOutlivesAPage : Obligations.OnlyTheseCommandsChangeWhatOutlivesAPage := by
  unfold Obligations.OnlyTheseCommandsChangeWhatOutlivesAPage
  intro c s t h notOn notHeld
  cases c with
  | powerOn straps => exact absurd rfl (notOn straps).1
  | resetPinReleased straps => exact absurd rfl (notOn straps).2
  | resetPinAsserted => exact absurd rfl notHeld
  | endOfConfig memory strips => exact changesWhatOutlives_endOfConfig h
  | scanComplete sensed => exact changesWhatOutlives_scanComplete h
  | stepTimerExpiry x => exact changesWhatOutlives_stepTimer h
  | railPeriod => exact changesWhatOutlives_railPeriod h
  | driftTimerExpiry a b d e => exact changesWhatOutlives_driftTimer h
  | discardedFrame heard => exact changesWhatOutlives_discardedFrame h
  | joinListenTimerExpiry =>
    refine changesWhatOutlives_of_run
      (f := fun s => if Timer.due joinPeriod s.start.joinTimer then enterJoined s else s) ?_ h
    split
    · exact outlasts_enterJoined
    · exact .refl
  | quietGap => exact changesWhatOutlives_of_run (.of_changes (changes_quietGapEnds s)) h
  | slotBegins => exact changesWhatOutlives_of_run (.of_changes (changes_beginAttempt s)) h
  | deferral => exact changesWhatOutlives_of_run (.of_changes (changes_lineBusy s)) h
  | collision =>
    exact changesWhatOutlives_of_run (whileSending_keeps .refl fun o => .of_changes (changes_collide o s)) h
  | jamEnd => exact changesWhatOutlives_of_run (whileJamming_keeps .refl fun o => .of_changes (changes_endJam o s)) h
  | attemptCompletes => exact changesWhatOutlives_of_run (whileSending_keeps .refl outlasts_completeAttempt) h
  | linkUp => exact changesWhatOutlives_of_run outlasts_lineComesUp h
  | linkDown => exact changesWhatOutlives_of_run outlasts_lineGoesDown h
  | drawRefreshTimerExpiry => exact changesWhatOutlives_of_run outlasts_refreshExpires h
  | settleTimerExpiry => exact changesWhatOutlives_of_run outlasts_riseExpires h
  | entryExpiry station => exact changesWhatOutlives_of_run (outlasts_expireEntry station) h
  | presenceBegins | presenceEnds | arrivalFilterExpiry | departureFilterExpiry =>
    exact changesWhatOutlives_of_run (.of_changes (changes_guardEvent _ _ s)) h
  | presenceTimerExpiry strip => exact changesWhatOutlives_of_run (outlasts_stripFails _) h
  | holdLimitExpiry => exact changesWhatOutlives_of_run outlasts_holdExpires h
  | page | content | turn | settled | draw | reply | resetPage | resetLink | resetDisregarded =>
    exact (outlasts_of_frameOf rfl (fun _ _ _ => by exact nofun) h).changes
  | statusSummary | statusCounters | digest | faults | flatten | clearFaults | identify | clearCounters
  | unknownQuery | queryDisregarded => exact changesWhatOutlives_of_query rfl h

end Sys2Proof.Machine
end

section
/-!
The work that a turn and a FLATTEN start (R49, R59): the plan rebuilt under the pattern worked out, with the notices and
the settle they may bring (O21, O30).
-/

namespace Sys2Proof.Machine

section Work
variable {s t u w : State}

/-! ### Diffs of the rows that the pattern does not touch -/

/-- R11. -/
theorem mem_statusRows {r : Nat} : r ∈ statusRows s ↔ ∃ k, statusCell s = some (r / 4, k) := by
  unfold statusRows
  cases statusCell s with
  | none => simp
  | some lk =>
    simp only [List.mem_cons, List.not_mem_nil, or_false, Option.some.injEq, Prod.ext_iff]
    constructor
    · intro h
      exact ⟨lk.2, by omega, rfl⟩
    · rintro ⟨k, line, -⟩
      omega

/-- R12: TARGET_eff differs from TARGET in the status rows alone. -/
theorem targetRow_of_not_statusRow (start : StartOk s) {r : Nat} (other : r ∉ statusRows s) :
    targetRow s r = imageRow s.page.target (cellCount s) r := by
  unfold targetRow targetEff
  cases cell : statusCell s with
  | none => rfl
  | some lk =>
    obtain ⟨l, k⟩ := lk
    have inCells : k < cellCount s := by
      obtain ⟨-, -, inRange⟩ := start
      cases hc : s.start.settings with
      | none => simp [statusCell, hc] at cell
      | some c =>
        obtain ⟨-, -, -, -, -, -, -, -, cellOk⟩ := inRange c hc
        simpa [cellCount, hc] using (cellOk l k (by simpa [statusCell, hc] using cell)).2
    have otherLine : l ≠ r / 4 := fun h => other (mem_statusRows.mpr ⟨k, by rw [cell, h]⟩)
    refine pinSet_congr fun p hp => ?_
    have apart : l * cellCount s + k ≠ r / 4 * cellCount s + p / 2 := by
      intro same
      have inCells' : p / 2 < cellCount s := by omega
      have hl := congrArg (· / cellCount s) same
      simp only [Nat.mul_comm _ (cellCount s), Nat.mul_add_div (Nat.zero_lt_of_lt inCells), Nat.div_eq_of_lt inCells,
        Nat.div_eq_of_lt inCells', Nat.add_zero] at hl
      exact otherLine hl
    simp only [pinUp, cellAt, List.getD_eq_getElem?_getD, List.getElem?_set_ne apart]

/-- R68, R12: outside the status rows a diff does not read the pattern. -/
theorem diff_of_not_statusRow (startOk : StartOk s) (start : t.start = s.start) (target : t.page.target = s.page.target)
    (shown : t.shown = s.shown) (faults : t.plan.faults = s.plan.faults) {r : Nat} (other : r ∉ statusRows s) :
    diff t r = diff s r := by
  have row : targetRow (t.withPattern s.pattern) r = targetRow t r := by
    rw [targetRow_of_not_statusRow (s := t) (startOk.congr start) (by rwa [statusRows_congr start]),
      targetRow_of_not_statusRow (s := t.withPattern s.pattern) (startOk.congr start)
        (by rwa [statusRows_congr (t := t.withPattern s.pattern) start])]
    rfl
  have unpatterned : diff (t.withPattern s.pattern) r = diff t r := by
    unfold diff
    rw [row]
    rfl
  rw [← unpatterned]
  exact diff_congr (t := t.withPattern s.pattern) start target shown rfl faults r

theorem freshJob_eq_none_iff {r : Nat} : freshJob t r = none ↔ (diff t r).isEmpty = true := by
  unfold freshJob
  split <;> simp [*]

theorem freshJob_congr {r : Nat} (hdiff : diff t r = diff s r) (start : t.start = s.start)
    (faults : t.plan.faults = s.plan.faults) : freshJob t r = freshJob s r := by
  unfold freshJob
  rw [hdiff, baseLevel_congr start faults]

/-! ### The plan rebuilt -/

/-- R49, R59: the work begun, the pattern worked out, a RUNNING engine fenced and the plan rebuilt. -/
def workPlanned (s : State) : State := rebuildPlan (fence (setPattern (restartHold (workBegun s))))

/-- The tile with its work planned, before the notices. -/
structure Planned (s w : State) : Prop where
  changes : Changes [.page, .pattern, .plan, .pipe, .touch] s w
  page : w.page = { s.page with state := .working, outcome := .none, detail := 0, heldMark := false }
  pattern : w.pattern = patternOf w
  faults : w.plan.faults = s.plan.faults
  pipe : w.pipe = if s.pipe.engine = .running then fenced s.pipe else s.pipe
  touch : w.touch = { s.touch with holdTime := 0, holdPhase := w.touch.holdPhase }
  phase : w.touch.holdPhase = .running ∨ w.touch.holdPhase = .paused
  jobs : ∀ r < rowCount s, jobAt w r = freshJob w r

theorem planned_workPlanned (rows : rowCount s ≤ 24) : Planned s (workPlanned s) := by
  let x := setPattern (restartHold (workBegun s))
  have begun : Changes [.page, .pattern, .touch] s x :=
    ((changes_withPage _ _).comp (changes_withTouch _ _) (ds := [.page, .pattern, .touch])).comp (changes_setPattern _)
  have fence := changes_fence x
  have rebuilt : Changes [.plan] (Machine.fence x) (workPlanned s) := changes_rebuildPlan _
  have faults : (workPlanned s).plan.faults = (Machine.fence x).plan.faults := rebuildPlan_faults _
  have rebuiltTouch : (workPlanned s).touch = x.touch := rebuilt.touch.trans fence.touch
  have count : rowCount (Machine.fence x) = rowCount s :=
    rowCount_congr (t := Machine.fence x) (fence.start.trans begun.start)
  refine ⟨(begun.comp fence (ds := [.page, .pattern, .plan, .pipe, .touch])).comp rebuilt, rebuilt.page.trans fence.page,
    ?_, faults.trans (congrArg Plan.faults (fence.plan.trans begun.plan)), ?_, ?_, ?_, fun r hr => ?_⟩
  · rw [rebuilt.pattern, fence.pattern]
    exact (patternOf_congr (s := restartHold (workBegun s)) (rebuilt.start.trans fence.start)
      (congrArg Page.turned (rebuilt.page.trans fence.page)) (congrArg Page.state (rebuilt.page.trans fence.page))
      (congrArg Page.outcome (rebuilt.page.trans fence.page)) (congrArg RailShare.view (rebuilt.rail.trans fence.rail))
      (congrArg Touch.lines rebuiltTouch) (congrArg Link.lineUp (rebuilt.link.trans fence.link))).symm
  · rw [rebuilt.pipe]
    exact fence_pipe x
  · rw [rebuiltTouch]
    rfl
  · rw [rebuiltTouch]
    have restarted : x.touch.holdPhase = if holdCondition (workBegun s) then .running else .paused := rfl
    rw [restarted]
    split
    · exact .inl rfl
    · exact .inr rfl
  · have planned : jobAt (workPlanned s) r = _ := jobAt_rebuildPlan _ (by rw [count]; exact rows) r
    rw [planned, if_pos (by rw [count]; exact hr)]
    refine (freshJob_congr (s := Machine.fence x) (diff_congr rebuilt.start (congrArg Page.target rebuilt.page)
      rebuilt.shown rebuilt.pattern
      faults r) rebuilt.start faults).symm

theorem Planned.idle_iff (h : Planned s w) : w.pipe.engine = .idle ↔ s.pipe.engine = .idle := by
  rw [h.pipe]
  cases hs : s.pipe.engine <;> simp [fenced, hs]

/-! ### The notices of the planned work -/

/-- The settle check after the notices has nothing left to settle. -/
theorem startWork_eq : startWork s = planNotices (workPlanned s) := by
  have begun : PatternRight (setPattern (restartHold (workBegun s))) := setPattern_right _
  have planned : PatternRight (workPlanned s) :=
    (begun.of_plant (changes_fence _) (hf := by rw [(changes_fence _).touch])).of_plant (changes_rebuildPlan _)
      (hf := congrArg Touch.lines (changes_rebuildPlan _).touch)
  exact settleCheck_of_not_canSettle (atRest_planNotices planned).settled

/-- R162: after a settle from a plan whose diffs were empty, a row holds its diff, changed by the pattern alone. -/
theorem job_of_settle (start : StartOk w) (c : Changes workBlocks w t) (faults : t.plan.faults = w.plan.faults)
    (target : t.page.target = w.page.target) {r : Nat}
    (job : jobAt t r = if r ∈ statusRows w ∧ t.pattern ≠ w.pattern then freshJob t r else none)
    (noDiff : (diff w r).isEmpty = true) : jobAt t r = freshJob t r := by
  rw [job]
  split
  · rfl
  · rename_i other
    refine (freshJob_eq_none_iff.mpr ?_).symm
    by_cases same : t.pattern = w.pattern
    · rwa [diff_congr c.start target c.shown same faults]
    · rwa [diff_of_not_statusRow start c.start target c.shown faults fun status => other ⟨status, same⟩]

/-- R71, R72: the plan holds the diffs of all rows after the notices, a settle's change of pattern included. -/
theorem Planned.jobs_noticed (planned : Planned s w) (noticed : Noticed w t) (c : Changes workBlocks w t)
    (start : StartOk s) {r : Nat} (hr : r < rowCount s) : jobAt t r = freshJob t r := by
  have begun := planned.jobs r hr
  obtain ⟨⟨page, -, -, -⟩, pattern, plan⟩ | ⟨⟨n, -, -, page, -, -⟩, -, noJob, -, jobs⟩ := noticed.outcome
  · rw [jobAt_congr plan, begun]
    exact (freshJob_congr (diff_congr c.start (congrArg Page.target page) c.shown pattern noticed.faults r) c.start
      noticed.faults).symm
  · have noDiff : (diff w r).isEmpty = true := freshJob_eq_none_iff.mp (begun.symm.trans (noJob r))
    exact job_of_settle (start.congr planned.changes.start) c noticed.faults (by rw [page]) (jobs r) noDiff

/-- R102: the pipeline after the notices of an event that has fenced a RUNNING engine. -/
theorem HandedOn.pipelineAfterTurn (h : HandedOn w t) (start : w.start = s.start)
    (pipe : w.pipe = if s.pipe.engine = .running then fenced s.pipe else s.pipe) (on : onTheLink s = true) :
    PipelineAfterTurn s t := by
  unfold PipelineAfterTurn
  cases hs : s.pipe.engine with
  | running =>
    rw [if_pos hs] at pipe
    exact (h.pipe_of_busy (by rw [pipe]; exact nofun)).trans pipe
  | fenced =>
    rw [if_neg (by rw [hs]; decide)] at pipe
    exact (h.pipe_of_busy (by rw [pipe, hs]; exact nofun)).trans pipe
  | idle =>
    rw [if_neg (by rw [hs]; decide)] at pipe
    obtain ⟨looked, -, -⟩ := h
    rw [if_pos ⟨by rw [pipe, hs], by rw [onTheLink_congr start, on]⟩] at looked
    exact looked.congr pipe.symm rfl rfl rfl

theorem Planned.pipeline (planned : Planned s w) (noticed : Noticed w t) (on : onTheLink s = true) :
    PipelineAfterTurn s t :=
  noticed.handedOn.pipelineAfterTurn planned.changes.start planned.pipe on

/-- R105: the drift timer is stopped by an engine that starts, and only then. -/
theorem Planned.driftTimer (planned : Planned s w) (noticed : Noticed w t) (on : onTheLink s = true) :
    t.touch.driftTimer = if t.pipe.engine = .running then none else s.touch.driftTimer := by
  have pipeline := planned.pipeline noticed on
  have pipe := planned.pipe
  obtain ⟨-, -, touch⟩ := noticed.handedOn
  rw [touch, planned.touch]
  unfold PipelineAfterTurn at pipeline
  cases hs : s.pipe.engine with
  | running => simp_all [fenced]
  | fenced => simp_all
  | idle =>
    simp only [hs] at pipeline
    rw [if_neg (by rw [hs]; decide)] at pipe
    obtain ⟨same, -⟩ | ⟨r, j, started, -⟩ := pipeline
    · simp [same, pipe, hs]
    · simp [started, pipe, hs]

theorem Planned.workStarted (planned : Planned s w) (noticed : Noticed w t) (c : Changes workBlocks w t)
    (kept : WorkKept w t) (right : PatternRight t) (start : StartOk s) (on : onTheLink s = true) : WorkStarted s t := by
  obtain ⟨-, judged, -⟩ := noticed.handedOn
  rw [holdJudged_iff, if_pos planned.phase] at judged
  refine ⟨fun r hr => planned.jobs_noticed noticed c start hr, noticed.faults.trans planned.faults, ?_, ?_, judged, ?_, ?_,
    planned.driftTimer noticed on, right, planned.pipeline noticed on⟩
  · rw [kept.page.1, planned.page]
  · rw [kept.holdTime, planned.touch]
  · rw [kept.lines, planned.touch]
  · rw [kept.rotation, planned.touch]

/-- R49: the pattern under which the settle check was made. -/
theorem Planned.turnPattern (planned : Planned s w) (c : Changes workBlocks w t) (kept : WorkKept w t) :
    turnPattern t = w.pattern := by
  rw [planned.pattern]
  have turned : t.page.turned = w.page.turned := by rw [kept.page.1]
  exact patternOf_congr (t := t.withPage { t.page with state := .working, outcome := .none }) c.start turned
    (by rw [planned.page]; rfl) (by rw [planned.page]; rfl) (congrArg RailShare.view c.rail) kept.lines kept.kept.1

/-- R49, R56, R57, R59: the page after the notices, `b` being the tile that heard the frame. -/
theorem Planned.pageAfterTurn {b : State} (planned : Planned s w) (noticed : Noticed w t) (c : Changes workBlocks w t)
    (kept : WorkKept w t) (start : StartOk s) (heard : Changes [.page] (lineBusy b) s)
    (record : s.page.record = b.page.record) : PageAfterTurn b t := by
  obtain ⟨⟨page, link, -, still⟩, -, -⟩ | ⟨settles, idle, noJob, -, jobs⟩ := noticed.outcome
  · refine .inl ⟨?_, ?_, ?_, ?_, ?_, fun idle => still (by rw [planned.page]) idle⟩
    · rw [page, planned.page]
    · rw [page, planned.page]
    · rw [page, planned.page]
    · rw [page, planned.page]
      exact record
    · rw [link, planned.changes.link]
      exact heard.link
  · have pattern := planned.turnPattern c kept
    obtain ⟨n, count, working, page, link, -⟩ := settles
    have idle' : b.pipe.engine = .idle := by
      rw [← planned.idle_iff.mp idle]
      exact congrArg Pipeline.engine heard.pipe.symm
    have announced : (enqueueAnnounce .settled w).link = (enqueueAnnounce .settled (lineBusy b)).link :=
      enqueueAnnounce_link_congr _ (planned.changes.start.trans heard.start) (planned.changes.link.trans heard.link)
        (planned.changes.draws.trans heard.draws)
    refine .inr ⟨idle', fun r => ?_, ?_, ?_, ?_, ?_, link.trans announced⟩
    · rw [pattern]
      split
      · rename_i status
        have inRows : r < rowCount s := by
          rw [statusRows_congr (c.start.trans planned.changes.start)] at status
          exact start.statusRow_lt (.inl status)
        have target : t.page.target = w.page.target := by rw [page]
        rw [diff_congr (s := w) (t := t.withPattern w.pattern) c.start target c.shown rfl noticed.faults]
        exact freshJob_eq_none_iff.mp ((planned.jobs r inRows).symm.trans (noJob r))
      · rename_i other
        rw [jobs, if_neg fun h => other (by rw [statusRows_congr c.start]; exact h.1)]
    · rw [page]
    · rw [page, pattern]
      exact count
    · rw [page]
    · rw [page]

end Work

/-- The notices of the planned work, with all that they keep. -/
theorem noticed_startWork {s : State} (start : StartOk s) (idleEmpty : s.pipe.engine = .idle → slotsEmpty s = true) :
    Noticed (workPlanned s) (startWork s) := by
  have planned := planned_workPlanned start.rows_le
  rw [startWork_eq]
  refine noticed_planNotices ?_ fun idle => ?_
  · rw [statusRows_congr planned.changes.start]
    exact statusRows_lt start
  · have was := planned.idle_iff.mp idle
    have pipe := planned.pipe
    rw [if_neg (by rw [was]; decide)] at pipe
    rw [slotsEmpty, pipe]
    exact idleEmpty was

/-- What work started from a heard frame's line leaves. -/
structure StartedFrom (b s t : State) : Prop where
  changes : Changes workBlocks s t
  page : t.page = { s.page with
    state := t.page.state, outcome := t.page.outcome, detail := t.page.detail, heldMark := false
    record := t.page.record }
  draws : t.draws = s.draws
  notQuiet : t.link.quiet = false
  work : WorkStarted s t
  afterTurn : PageAfterTurn b t

theorem startedFrom_startWork {b s : State} (start : StartOk s) (slots : SlotsOk s) (on : onTheLink s = true)
    (heard : Changes [.page] (lineBusy b) s) (record : s.page.record = b.page.record) :
    StartedFrom b s (startWork s) := by
  have planned := planned_workPlanned start.rows_le
  have noticed := noticed_startWork start slots.1
  have kept : WorkKept (workPlanned s) (startWork s) := by rw [startWork_eq]; exact workKept_planNotices _
  have c : Changes workBlocks (workPlanned s) (startWork s) := by rw [startWork_eq]; exact changes_planNotices _
  have right := atRest_startWork (s := s).pattern
  generalize startWork s = t at *
  generalize workPlanned s = w at *
  have busy : w.link.quiet = false := by rw [planned.changes.link, heard.link]; rfl
  refine ⟨planned.changes.comp c, ?_, (kept.draws busy).trans planned.changes.draws, kept.kept.2.1.trans busy,
    planned.workStarted noticed c kept right start on, planned.pageAfterTurn noticed c kept start heard record⟩
  rw [kept.page.1, planned.page]

/-- Settles O21: the turn is the work started (`startedFrom_startWork`) on the page with STAGING as its TARGET. -/
theorem turnTakenStartsThePage : Obligations.TurnTakenStartsThePage := by
  unfold Obligations.TurnTakenStartsThePage
  intro sender serial total s e hears nonzero bound assembling enough start slots
  obtain ⟨running, on, -, -⟩ := id hears
  have ok : bodyOk (.turn serial total) = true := by simpa [bodyOk, bound] using nonzero
  let x := (lineBusy s).withPage { s.page with target := s.page.staging, turned := serial, stagingState := .empty }
  have taken : takeTurn serial total (lineBusy s) = startWork x := by
    have state : (lineBusy s).page.stagingState = .assembling serial e := assembling
    unfold takeTurn
    rw [state]
    dsimp only
    rw [if_neg (fun h => h rfl), if_pos enough]
    rfl
  have heard : Changes [.page] (lineBusy s) x := changes_withPage _ _
  have begun := startedFrom_startWork (b := s) (s := x) start slots on heard rfl
  have exec_eq : exec (.turn sender serial total) s = .next (startWork x) := by
    rw [exec_delivered (c := .turn sender serial total) rfl hears ok, ← taken]
    rfl
  refine ⟨startWork x, exec_eq, ?_, begun.draws, ?_, ?_, ?_, ?_, begun.afterTurn, begun.work⟩
  · exact ((changes_lineBusy s).comp heard (ds := workBlocks)).comp begun.changes
  all_goals rw [begun.page]; rfl

theorem linkWithReply_lineUp (r : Reply) (l : Link) : (linkWithReply r l).lineUp = l.lineUp := by
  unfold linkWithReply
  split
  · rfl
  · split <;> rfl

/-- Nothing of the work reads the queue. -/
theorem WorkStarted.withLink {s t : State} {l : Link} (h : WorkStarted s t) (lineUp : l.lineUp = t.link.lineUp) :
    WorkStarted s (t.withLink l) := by
  obtain ⟨jobs, faults, mark, time, phase, lines, rotation, drift, right, pipeline⟩ := h
  refine ⟨jobs, faults, mark, time, phase, lines, rotation, drift, right.trans (Eq.symm ?_), pipeline⟩
  exact patternOf_congr (t := t.withLink l) rfl rfl rfl rfl rfl rfl lineUp

/-- R176: the reply joins the queue behind a line that is not quiet. -/
theorem answerQuery_flatten {tag : Byte} {s : State} (notQuiet : (flattenPage s).link.quiet = false) :
    answerQuery tag 4 [] s = (flattenPage s).withLink
      (linkWithReply { tag := tag, outcome := 1, kind := 4, code := 0, data := [] } (flattenPage s).link) :=
  answerQuery_of_classify (q := .flatten) rfl notQuiet

/-- Settles O30: FLATTEN is the work started on a blank TARGET, its reply queued after it. -/
theorem flattenStartsABlankPage : Obligations.FlattenStartsABlankPage := by
  unfold Obligations.FlattenStartsABlankPage
  intro sender target tag s taken start slots
  obtain ⟨⟨running, on, -, -⟩, -, -⟩ := id taken
  let x := (lineBusy s).withPage { s.page with target := s.page.target.map (fun _ => 0#8) }
  have flat : flattenPage (lineBusy s) = startWork x := rfl
  have heard : Changes [.page] (lineBusy s) x := changes_withPage _ _
  have begun := startedFrom_startWork (b := s) (s := x) start slots on heard rfl
  have exec_eq := exec_query (c := .flatten sender target tag []) rfl taken (by decide)
  rw [answerQuery_flatten (by rw [flat]; exact begun.notQuiet), flat] at exec_eq
  have all : Changes workBlocks s (startWork x) :=
    ((changes_lineBusy s).comp heard (ds := workBlocks)).comp begun.changes
  generalize startWork x = u at *
  have page : u.page = { s.page with
      target := s.page.target.map (fun _ => 0#8), state := u.page.state, outcome := u.page.outcome,
      detail := u.page.detail, heldMark := false, record := u.page.record } := begun.page
  refine ⟨_, u, exec_eq, ?_, begun.draws, ?_, ?_, ?_, ?_, begun.work.withLink (linkWithReply_lineUp _ _), changes_withLink _ _,
    begun.afterTurn, rfl⟩
  · exact all.comp (changes_withLink _ _)
  · rw [State.withLink_page, page]
    exact List.map_const'
  · rw [State.withLink_page, page]
  · rw [State.withLink_page, page]
  · rw [State.withLink_page, page]

end Sys2Proof.Machine
end

section
/-!
The entry into LISTENING (R188), said once for the end of the initial scan and for a LINK reset; and the scan itself (O9).
-/

namespace Sys2Proof.Machine

section Listening
variable {s t u : State} {c : Settings}

/-! ### A DRAW queued where no frame may contend -/

/-- R24: contention needs a JOINED tile and a quiet line. -/
def CannotContend (s : State) : Prop := s.start.life ≠ .joined ∨ s.link.quiet = false

theorem CannotContend.tryContend_eq (h : CannotContend s) : tryContend s = s := by
  obtain life | busy := h
  · exact tryContend_of_not_ready (by simp [headReady, life])
  · exact tryContend_of_not_quiet busy

/-- R30: an announcement queued where no frame may contend reads and changes the link controller alone. -/
theorem enqueueAnnounce_of_cannotContend (k : Announce) (h : CannotContend s) : (enqueueAnnounce k s).draws = s.draws ∧
    ∀ t : State, CannotContend t → t.link = s.link → (enqueueAnnounce k t).link = (enqueueAnnounce k s).link := by
  have joined (f : QFrame) {x : State} (hx : CannotContend x) : joinTail f x = x.withLink { x.link with
      queue := x.link.queue ++ [f]
      attempt := if x.link.queue = [] then 1 else x.link.attempt
      window := if x.link.queue = [] then 8 else x.link.window } := by
    rw [joinTail_eq]
    exact CannotContend.tryContend_eq hx
  have roomy {x : State} (hx : CannotContend x) : CannotContend (makeRoom x) := by
    obtain life | busy := hx
    · exact .inl life
    · exact .inr ((kept_makeRoom x).2.1.trans busy)
  constructor
  · unfold enqueueAnnounce
    split
    · exact (changes_renewQueued k s).draws
    · split
      · rw [joined _ h]
        rfl
      · rw [joined _ (roomy h)]
        exact (changes_makeRoom s).draws
  · intro t ht link
    have room : (makeRoom t).link = (makeRoom s).link := by rw [makeRoom_link, makeRoom_link, link]
    unfold enqueueAnnounce
    rw [link]
    split
    · unfold renewQueued
      rw [link]
      dsimp only
      split
      · rfl
      · split
        · rfl
        · exact link
    · split
      · rw [joined _ h, joined _ ht, State.withLink_link, State.withLink_link, link]
      · rw [joined _ (roomy h), joined _ (roomy ht), State.withLink_link, State.withLink_link, room]

/-! ### The entry -/

/-- R188, R135: the tile that has entered LISTENING, from one without an allowance. -/
structure EnteredListening (c : Settings) (s t : State) : Prop where
  changes : Changes [.start, .touch, .bank, .rail, .link, .draws, .pipe] s t
  draws : t.draws = s.draws
  start : t.start = { s.start with life := .listening, joinTimer := some 0 }
  link : t.link = (enqueueAnnounce .draw s).link
  bank : t.bank = { s.bank with railTimer := some (s.bank.railTimer.getD 0) }
  view : t.rail.view = s.rail.view
  refresh : t.rail.refreshTimer = some 0
  computed : t.rail.computed = computeAllowance c s.bank.demand s.rail.view s.link.lineUp
  applied : t.rail.applied = 0
  held : ∀ r, t.rail.rise = some r → r.phase = .held ∧ r.target = t.rail.computed ∧ r.awaited = s.bank.demand
  noRise : t.rail.rise = none ↔ t.rail.computed = 0
  touch : t.touch = { s.touch with driftTimer := none }
  looked : s.pipe.engine = .idle → slotsEmpty s = true → LookedForRow s t
  pipe : s.pipe.engine ≠ .idle → t.pipe = s.pipe

/-- R131, R133, R135: what an allowance computed in LISTENING leaves of a tile without one. -/
theorem rise_of_listening (h : AllowanceApplied s t) (zero : s.rail.applied = 0) (none : s.rail.rise = none)
    (listening : t.start.life = .listening) : t.rail.applied = 0 ∧
      (∀ r, t.rail.rise = some r → r.phase = .held ∧ r.target = t.rail.computed ∧ r.awaited = t.bank.demand) ∧
      (t.rail.rise = Option.none ↔ t.rail.computed = 0) := by
  obtain ⟨applied, rise⟩ := h
  refine ⟨by rw [applied, zero]; exact Nat.zero_min _, ?_⟩
  by_cases above : t.rail.computed ≤ s.rail.applied
  · rw [if_pos above] at rise
    exact ⟨fun r hr => by simp [rise] at hr, fun _ => by omega, fun _ => rise⟩
  · rw [if_neg above, none, if_pos (.inl listening)] at rise
    refine ⟨fun r hr => ?_, fun h => ?_, fun h => absurd h (by omega)⟩
    · cases rise.symm.trans hr
      exact ⟨rfl, rfl, rfl⟩
    · rw [rise] at h
      exact nomatch h

theorem enteredListening (hc : s.start.settings = some c) (cannot : CannotContend s) (zero : s.rail.applied = 0)
    (none : s.rail.rise = none) : EnteredListening c s (enterListening s) := by
  let x := (((s.withStart { s.start with life := .listening, joinTimer := some 0 }).withTouch
    { s.touch with driftTimer := Option.none }).withBank
      { s.bank with railTimer := some (s.bank.railTimer.getD 0) }).withRail { s.rail with refreshTimer := some 0 }
  let y := enqueueAnnounce .draw x
  let z := recomputeAllowance y
  have eq : enterListening s = lookForRow z := rfl
  have still : CannotContend x := .inl (by exact nofun)
  have queued := changes_enqueueAnnounce .draw x
  have computed := changes_recomputeAllowance y
  have looked := changes_lookForRow z
  have yTouch : z.touch = x.touch := computed.touch.trans queued.touch
  have spec : AllowanceRecomputed c y z :=
    recomputeAllowance_spec _ (by rw [queued.start]; exact hc) (by rw [onTheLink_congr queued.start]; rfl)
  obtain ⟨view, refresh, value, allowed⟩ := spec
  have bank : z.bank = x.bank := computed.bank.trans queued.bank
  have demand : z.bank.demand = x.bank.demand := congrArg Bank.demand bank
  have line : z.link.lineUp = s.link.lineUp := by rw [computed.link]; exact (kept_enqueueAnnounce _ _).1
  obtain ⟨applied, held, noRise⟩ := rise_of_listening allowed (by rw [queued.rail]; exact zero)
    (by rw [queued.rail]; exact none) (congrArg StartUp.life (computed.start.trans queued.start))
  rw [eq]
  refine ⟨?_, ?_, ?_, ?_, ?_, ?_, ?_, ?_, ?_, ?_, ?_, ?_, fun idle empty => ?_, fun busy => ?_⟩
  · exact changes_enterListening s
  · rw [looked.draws, computed.draws]
    exact (enqueueAnnounce_of_cannotContend .draw still).1
  · rw [looked.start, computed.start, queued.start]
    rfl
  · rw [looked.link, computed.link]
    exact (enqueueAnnounce_of_cannotContend .draw cannot).2 x still rfl
  · rw [looked.bank, bank]
    rfl
  · rw [looked.rail, view, queued.rail]
    rfl
  · rw [looked.rail, refresh, queued.rail]
    rfl
  · rw [looked.rail, value, bank, view, queued.rail, line]
    rfl
  · rw [looked.rail, applied]
  · rw [looked.rail]
    intro r hr
    obtain ⟨phase, target, awaited⟩ := held r hr
    exact ⟨phase, target, awaited.trans demand⟩
  · rw [looked.rail]
    exact noRise
  · have stopped : (lookForRow z).touch.driftTimer = Option.none := by
      obtain same | ⟨-, -, -, drift⟩ := lookForRow_cases (s := z)
      · rw [same, yTouch]
        rfl
      · exact drift
    rw [lookForRow_touch, stopped, yTouch]
    rfl
  · have pipe : z.pipe = s.pipe := computed.pipe.trans queued.pipe
    exact (lookForRow_spec z (by rw [pipe]; exact idle) (by rw [onTheLink_congr (computed.start.trans queued.start)]; rfl)
      (by rw [slotsEmpty, pipe]; exact empty)).congr pipe.symm rfl rfl rfl
  · have pipe : z.pipe = s.pipe := computed.pipe.trans queued.pipe
    have same : lookForRow z = z := if_neg fun h => busy (by rw [← pipe]; exact h.1)
    rw [same, pipe]

/-! ### A plan with the status rows' jobs alone -/

/-- R68, R69: of the start-up state a job reads the settings alone. -/
theorem freshJob_settings (settings : t.start.settings = s.start.settings) (target : t.page.target = s.page.target)
    (shown : t.shown = s.shown) (pattern : t.pattern = s.pattern) (faults : t.plan.faults = s.plan.faults) (r : Nat) :
    freshJob t r = freshJob s r := by
  have moves : diff t r = diff s r := by
    simp only [diff, targetRow, targetEff, shownRow, stuckPins, faultAt, statusCell, cellCount, colCount, settings,
      target, shown, pattern, faults]
  have weak : weakPins t r = weakPins s r := by simp only [weakPins, faultAt, cellCount, colCount, settings, faults]
  have level (m : Moves) : baseLevel t r m = baseLevel s r m := by rw [baseLevel, baseLevel, weak]
  rw [freshJob, freshJob, moves, level]

theorem holdCondition_settings (settings : t.start.settings = s.start.settings) (plan : t.plan = s.plan)
    (lines : t.touch.lines = s.touch.lines) : holdCondition t = holdCondition s := by
  have held : lineHeld t = lineHeld s := funext fun l => by
    simp only [lineHeld, lineClosed_congr lines, jobAt_congr plan]
  have count : lineCount t = lineCount s := by rw [lineCount, lineCount, settings]
  rw [holdCondition, holdCondition, held, count]

theorem statusRows_settings (settings : t.start.settings = s.start.settings) : statusRows t = statusRows s := by
  simp only [statusRows, statusCell, settings]

theorem OnlyStatusJobs.congr (h : OnlyStatusJobs s) (settings : t.start.settings = s.start.settings)
    (target : t.page.target = s.page.target) (shown : t.shown = s.shown) (pattern : t.pattern = s.pattern)
    (plan : t.plan = s.plan) : OnlyStatusJobs t := by
  intro r
  rw [jobAt_congr plan, h r, statusRows_settings settings,
    freshJob_settings settings target shown pattern (by rw [plan])]

/-- R67: the status rows refreshed in an empty plan. -/
theorem onlyStatusJobs_refreshRows (hlt : ∀ r ∈ statusRows s, r < 24) (empty : ∀ r, jobAt s r = none) :
    OnlyStatusJobs (refreshRows (statusRows s) s) := by
  have c := changes_refreshRows (statusRows s) s
  intro r
  rw [jobAt_refreshed (t := refreshRows (statusRows s) s) statusRows_nodup hlt c.start (by rw [c.page]) c.shown c.pattern
    (refreshRows_faults s _), statusRows_congr c.start]
  split
  · exact refreshedJob_of_no_job (empty r)
  · exact empty r

/-! ### The initial scan -/

/-- R187, R9: SHOWN pin by pin as the scan senses it, row after row. -/
theorem pinUp_senseRows (pins : Nat → PinSet) (n : Nat) (size : s.shown.length = lineCount s * cellCount s) :
    ((List.range n).foldl (fun t r => senseRow r (pins r) t) s).shown.length = s.shown.length ∧
    ∀ r p, r < rowCount s → p < colCount s →
      pinUp ((List.range n).foldl (fun t r => senseRow r (pins r) t) s).shown (cellCount s) r p =
        if r < n then (pins r).getLsbD p else pinUp s.shown (cellCount s) r p := by
  induction n with
  | zero => exact ⟨rfl, fun _ _ _ _ => rfl⟩
  | succ n ih =>
    obtain ⟨length, sensed⟩ := ih
    rw [List.range_succ, List.foldl_append]
    have start : ((List.range n).foldl (fun t r => senseRow r (pins r) t) s).start = s.start :=
      (Changes.foldl _ (fun t r => changes_senseRow r _ t) _ s).start
    generalize (List.range n).foldl (fun t r => senseRow r (pins r) t) s = u at *
    have cells : cellCount u = cellCount s := by rw [cellCount, start, cellCount]
    have size' : u.shown.length = lineCount u * cellCount u := by rw [length, size, cells, lineCount, lineCount, start]
    refine ⟨(length_writeRow ..).trans length, fun r p hr hp => ?_⟩
    have row := pinUp_senseRow (r := n) (pins n) size' (by rwa [rowCount_congr start]) (by rwa [colCount_congr start])
    rw [cells, sensed r p hr hp] at row
    refine row.trans ?_
    by_cases here : r = n
    · subst here
      rw [if_pos rfl, if_pos (Nat.lt_succ_self r)]
    · rw [if_neg here]
      by_cases below : r < n
      · rw [if_pos below, if_pos (by omega)]
      · rw [if_neg below, if_neg (by omega)]

/-- R187: SHOWN after the scan. -/
theorem pinUp_scanImage (sensed : Vector PinSet 24) (size : s.shown.length = lineCount s * cellCount s) :
    (scanImage sensed s).shown.length = s.shown.length ∧
    ∀ r p, r < rowCount s → p < colCount s →
      pinUp (scanImage sensed s).shown (cellCount s) r p = (sensed[r]?.getD 0#20).getLsbD p := by
  obtain ⟨length, rows⟩ := pinUp_senseRows (fun r => sensed[r]?.getD 0#20) (rowCount s) size
  exact ⟨length, fun r p hr hp => (rows r p hr hp).trans (if_pos hr)⟩

end Listening

/-- The status rows planned at the end of the scan, before LISTENING is entered (R187, R67). -/
def scanPlanned (sensed : Vector PinSet 24) (s : State) : State :=
  planNotices (refreshRows (statusRows (copiedScan sensed s)) (copiedScan sensed s))

/-- R187: what the plan's notices leave of the tile in SCAN: no row is looked for, the hold condition is judged. -/
theorem scanPlanned_spec {s : State} (sensed : Vector PinSet 24) (ready : ScanReady s) (start : StartOk s) :
    Changes [.page, .plan, .shown, .touch] s (scanPlanned sensed s) ∧
      (scanPlanned sensed s).page = (copiedScan sensed s).page ∧
      (scanPlanned sensed s).shown = (scanImage sensed s).shown ∧
      (scanPlanned sensed s).plan.faults = s.plan.faults ∧ OnlyStatusJobs (scanPlanned sensed s) ∧
      HoldJudged s (scanPlanned sensed s) ∧
      (scanPlanned sensed s).touch = { s.touch with holdPhase := (scanPlanned sensed s).touch.holdPhase } := by
  obtain ⟨scan, pageIdle, -, -, empty, idle, slots, -, drift, -, -⟩ := ready
  let x := copiedScan sensed s
  let w := refreshRows (statusRows x) x
  have image := changes_scanImage s sensed
  have copied : Changes [.page, .shown] s x := image.comp (changes_withPage _ _)
  have refreshed := changes_refreshRows (statusRows x) x
  have planned : Changes [.page, .shown, .plan] s w := copied.comp refreshed
  have notWorking : w.page.state ≠ .working := by
    have same : x.page.state = (scanImage sensed s).page.state := rfl
    rw [refreshed.page, same, image.page, pageIdle]
    exact nofun
  have quiet : scanPlanned sensed s = quietNotices w := planNotices_eq_quietNotices w notWorking
  have handed := handedOn_quietNotices (s := w) fun _ => by rw [slotsEmpty, planned.pipe]; exact slots
  have noticed := changes_quietNotices w
  have off : onTheLink w = false := by rw [onTheLink_congr planned.start, onTheLink, scan]; rfl
  have jobs : OnlyStatusJobs w := onlyStatusJobs_refreshRows
    (fun r hr => statusRows_lt start r (by rwa [statusRows_congr copied.start] at hr))
    fun r => (jobAt_congr copied.plan r).trans (planEmpty_iff.mp empty r)
  rw [quiet]
  obtain ⟨looked, judged, touch⟩ := handed
  rw [if_neg (by simp [off])] at looked
  have lines : (quietNotices w).touch.lines = w.touch.lines := quietNotices_lines w
  generalize quietNotices w = u at *
  have pipeSame : u.pipe = s.pipe := looked.trans planned.pipe
  refine ⟨?_, noticed.page.trans refreshed.page, noticed.shown.trans refreshed.shown, ?_, ?_, ?_, ?_⟩
  · intro b hb
    by_cases isPipe : b = .pipe
    · subst isPipe
      exact pipeSame
    · exact (planned.comp noticed (ds := [.page, .plan, .shown, .touch] ++ [.pipe])) b fun mem =>
        (List.mem_append.mp mem).elim hb fun here => isPipe (List.mem_singleton.mp here)
  · rw [noticed.plan, refreshRows_faults, copied.plan]
  · exact jobs.congr (by rw [noticed.start]) (by rw [noticed.page]) noticed.shown noticed.pattern noticed.plan
  · exact judged.congr (by rw [planned.touch]) rfl rfl rfl rfl
  · rw [touch, looked, if_pos rfl, planned.touch]

/-- Settles O9: the scan with its plan (`scanPlanned_spec`), then the entry into LISTENING (`enteredListening`). -/
theorem scanCompleteEntersListening : Obligations.ScanCompleteEntersListening := by
  unfold Obligations.ScanCompleteEntersListening
  intro sensed s c running ready hc start ⟨_, _, size, _, _⟩
  have exec_eq : exec (.scanComplete sensed) s = .next (enterListening (scanPlanned sensed s)) := by
    have run := whenRunning_running (f := fun s => if s.start.life = .scan then finishScan sensed s else s) running
    rw [if_pos ready.1] at run
    exact run
  obtain ⟨changed, page, shown, faults, jobs, judged, touch⟩ := scanPlanned_spec sensed ready start
  obtain ⟨length, pins⟩ := pinUp_scanImage sensed size
  obtain ⟨scan, -, -, -, -, idle, slots, -, -, zero, noRise⟩ := ready
  generalize scanPlanned sensed s = u at *
  have cannot : CannotContend u := .inl (by rw [changed.start, scan]; exact nofun)
  have entered := enteredListening (c := c) (s := u) (by rw [changed.start]; exact hc) cannot
    (by rw [changed.rail]; exact zero) (by rw [changed.rail]; exact noRise)
  refine ⟨_, exec_eq, ?_, ?_, ?_, ?_, ?_, ?_, ?_, ?_, ?_, ?_, ?_, ?_, entered.refresh, ?_, entered.applied, ?_,
    entered.noRise, ?_, ?_, ?_⟩
  · exact changed.comp entered.changes
  · rw [entered.start, changed.start]
  · rw [entered.changes.shown, shown]
    exact pins
  · rw [entered.changes.shown, shown, length]
  · rw [entered.changes.page, entered.changes.shown, page, shown]
    exact congrArg (fun p : Page => { p with target := (scanImage sensed s).shown }) (changes_scanImage s sensed).page
  · rw [entered.changes.plan, faults]
  · exact jobs.congr (by rw [entered.start]) (by rw [entered.changes.page]) entered.changes.shown entered.changes.pattern
      entered.changes.plan
  · have queued : Queued .draw (enqueueAnnounce .draw u) := queued_enqueueAnnounce u .draw
    unfold Queued at *
    rw [entered.link]
    exact queued
  · rw [entered.draws, changed.draws]
  · rw [entered.link]
    exact (enqueueAnnounce_of_cannotContend .draw (s := s) (.inl (by rw [scan]; exact nofun))).2 u cannot changed.link
  · rw [entered.bank, changed.bank]
  · rw [entered.view, changed.rail]
  · rw [entered.computed, changed.bank, changed.rail, changed.link]
  · intro r hr
    obtain ⟨phase, target, awaited⟩ := entered.held r hr
    exact ⟨phase, target, by rw [awaited, changed.bank]⟩
  · exact (entered.looked (by rw [changed.pipe]; exact idle) (by rw [slotsEmpty, changed.pipe]; exact slots)).congr
      changed.pipe.symm rfl rfl rfl
  · rw [holdJudged_iff] at *
    rw [entered.touch, holdCondition_settings (t := enterListening u) (s := u) (by rw [entered.start])
      entered.changes.plan (by rw [entered.touch])]
    exact judged
  · rw [entered.touch, touch]

end Sys2Proof.Machine
end

section
/-!
The page reset (R61) and the LINK reset made of it (R192): O11, O12.
-/

namespace Sys2Proof.Machine

section Reset
variable {s t u w : State} {c : Settings}

/-- R159. -/
theorem patternOf_unturned (h : s.page.turned = 0) : patternOf s = .blank := if_pos h

/-- R67. -/
theorem jobAt_emptyPlan (r : Nat) : jobAt (emptyPlan s) r = none := by
  have jobs : (emptyPlan s).plan.jobs = Vector.replicate 24 none := rfl
  rw [jobAt, jobs, Vector.getElem?_replicate]
  split <;> rfl

/-- R61: the page cleared, the pattern worked out, a RUNNING engine fenced and the plan emptied. -/
def pageCleared (s : State) : State := emptyPlan (fence (setPattern (stopHold (clearPage s))))

/-- R61, R67, R102, R149, R165: the tile after a page reset. -/
structure PageIsReset (s t : State) : Prop where
  changes : Changes [.page, .pattern, .plan, .pipe, .touch] s t
  page : t.page = { s.page with
    stagingState := .empty, turned := 0, target := s.shown, state := .idle, outcome := .none, detail := 0
    heldMark := false }
  jobs : OnlyStatusJobs t
  faults : t.plan.faults = s.plan.faults
  pattern : t.pattern = .blank
  touch : t.touch = { s.touch with holdPhase := .inactive, holdTime := 0, driftTimer := t.touch.driftTimer }
  pipeline : PipelineAfterTurn s t
  drift : t.touch.driftTimer = s.touch.driftTimer ∨ (EngineStarted s t ∧ t.touch.driftTimer = none)

theorem pageIsReset_pageReset (start : StartOk s) (idleEmpty : s.pipe.engine = .idle → slotsEmpty s = true)
    (on : onTheLink s = true) : PageIsReset s (pageReset s) := by
  let x := setPattern (stopHold (clearPage s))
  let z := pageCleared s
  let w := refreshRows (statusRows z) z
  have begun : Changes [.page, .pattern, .touch] s x :=
    ((changes_withPage _ _).comp (changes_withTouch _ _) (ds := [.page, .pattern, .touch])).comp (changes_setPattern _)
  have fence := changes_fence x
  have emptied : Changes [.plan] (Machine.fence x) z := changes_emptyPlan _
  have refreshed : Changes [.plan] z w := changes_refreshRows _ _
  have planned : Changes [.plan] (Machine.fence x) w := emptied.trans refreshed
  have cleared : Changes [.page, .pattern, .plan, .pipe, .touch] s w :=
    (begun.comp fence (ds := [.page, .pattern, .plan, .pipe, .touch])).comp planned
  have page : w.page = (clearPage s).page := planned.page.trans fence.page
  have touch : w.touch = { s.touch with holdTime := 0, holdPhase := .inactive } := planned.touch.trans fence.touch
  have pipe : w.pipe = if s.pipe.engine = .running then fenced s.pipe else s.pipe := planned.pipe.trans (fence_pipe x)
  have noJob : ∀ r, jobAt z r = none := jobAt_emptyPlan
  have jobs : OnlyStatusJobs w := onlyStatusJobs_refreshRows (fun r hr => statusRows_lt start r (by
    rwa [statusRows_congr (emptied.start.trans (fence.start.trans begun.start))] at hr)) noJob
  have blank : x.pattern = .blank := patternOf_unturned (s := stopHold (clearPage s)) rfl
  have pattern : w.pattern = .blank := planned.pattern.trans (fence.pattern.trans blank)
  have eq : pageReset s = quietNotices w := planNotices_eq_quietNotices w (by rw [page]; exact nofun)
  have idle_of (idle : w.pipe.engine = .idle) : s.pipe.engine = .idle := by
    rw [pipe] at idle
    split at idle
    · exact nomatch idle
    · exact idle
  have handed := handedOn_quietNotices (s := w) fun idle => by
    have was := idle_of idle
    rw [slotsEmpty, pipe, if_neg (by rw [was]; decide)]
    exact idleEmpty was
  have noticed := changes_quietNotices w
  rw [eq]
  generalize quietNotices w = t at *
  have kept := handed.pipe_of_busy
  have pipeline := handed.pipelineAfterTurn cleared.start pipe on
  obtain ⟨looked, judged, touched⟩ := handed
  have phase : t.touch.holdPhase = .inactive := by
    rw [holdJudged_iff, touch] at judged
    exact judged.trans (if_neg (by simp))
  refine ⟨cleared.comp noticed, noticed.page.trans page, ?_, ?_, noticed.pattern.trans pattern, ?_, pipeline, ?_⟩
  · exact jobs.congr (by rw [noticed.start]) (by rw [noticed.page]) noticed.shown noticed.pattern noticed.plan
  · rw [noticed.plan, refreshRows_faults z]
    have kept : (Machine.fence x).plan.faults = s.plan.faults := congrArg Plan.faults (fence.plan.trans begun.plan)
    exact kept
  · rw [touched, touch, phase]
  · rw [touched, touch]
    dsimp only
    by_cases same : t.pipe.engine = w.pipe.engine
    · exact .inl (if_pos same)
    · rw [if_neg same]
      have idle : w.pipe.engine = .idle := by_contra fun busy => same (by rw [kept busy])
      have was := idle_of idle
      rw [if_neg (by rw [was]; decide)] at pipe
      simp only [PipelineAfterTurn, was] at pipeline
      obtain ⟨unmoved, -⟩ | started := pipeline
      · exact absurd (by rw [unmoved, pipe]) same
      · exact .inr ⟨started, rfl⟩

end Reset

/-- R190: a RESET of scope PAGE for this station or for all. -/
theorem deliver_resetPage {s : State} {sender target : Byte} (mine : station s = some target ∨ target = 255) :
    deliver sender (.reset target 0) s = pageReset s :=
  (if_pos mine).trans (if_pos rfl)

/-- Settles O11: the RESET is delivered, and is the page reset (`pageIsReset_pageReset`). -/
theorem resetPageMakesThePageReset : Obligations.ResetPageMakesThePageReset := by
  unfold Obligations.ResetPageMakesThePageReset
  intro sender target s hears mine range start slots
  obtain ⟨running, on, -, -⟩ := id hears
  have ok : bodyOk (.reset target 0) = true := by
    simpa [bodyOk] using range
  have reset := pageIsReset_pageReset (s := lineBusy s) start slots.1 on
  have exec_eq : exec (.resetPage sender target) s = .next (pageReset (lineBusy s)) := by
    rw [exec_delivered (c := .resetPage sender target) rfl hears ok, deliver_resetPage (s := lineBusy s) mine]
  generalize pageReset (lineBusy s) = t at *
  refine ⟨t, exec_eq, (changes_lineBusy s).comp reset.changes, reset.changes.link, reset.page, reset.jobs, reset.faults,
    reset.pattern, ?_, ?_, ?_, ?_, reset.pipeline, reset.drift⟩
  all_goals rw [reset.touch]
  all_goals rfl

end Sys2Proof.Machine
end

section
/-!
The LINK reset (R192): the page reset, the link controller, the rail share and the bank, then LISTENING entered afresh
(O12).
-/

namespace Sys2Proof.Machine

section LinkReset
variable {s t : State} {c : Settings}

/-! ### The link controller -/

/-- R30: a DRAW queued where no frame may contend and the queue has room, on a head with a fresh backoff. -/
theorem enqueueDraw_link (cannot : CannotContend s) (room : s.link.queue.length < queueLimit)
    (attempt : s.link.attempt = 1) (window : s.link.window = 8) :
    ((enqueueAnnounce .draw s).link = { s.link with
      queue := (enqueueAnnounce .draw s).link.queue, onLine := (enqueueAnnounce .draw s).link.onLine }) ∧
    (s.link.queue.any (QFrame.isAnnounce .draw) = false →
      (enqueueAnnounce .draw s).link.queue = s.link.queue ++ [.announce .draw false] ∧
      (enqueueAnnounce .draw s).link.onLine = s.link.onLine) ∧
    (s.link.queue.any (QFrame.isAnnounce .draw) = true → enqueueAnnounce .draw s = renewQueued .draw s) := by
  have joined : joinTail (.announce .draw false) s = s.withLink { s.link with
      queue := s.link.queue ++ [.announce .draw false] } := by
    have backoff : (s.withLink { s.link with
        queue := s.link.queue ++ [.announce .draw false]
        attempt := if s.link.queue = [] then 1 else s.link.attempt
        window := if s.link.queue = [] then 8 else s.link.window }) =
        s.withLink { s.link with queue := s.link.queue ++ [.announce .draw false] } := by
      rw [attempt, window, ite_self, ite_self, ← attempt, ← window]
    rw [joinTail_eq, backoff]
    exact CannotContend.tryContend_eq cannot
  unfold enqueueAnnounce
  by_cases queued : s.link.queue.any (QFrame.isAnnounce .draw) = true
  · rw [if_pos queued]
    exact ⟨renewQueued_spec.1.1, fun no => absurd (queued.symm.trans no) (by decide), fun _ => rfl⟩
  · rw [if_neg queued, if_pos room, joined]
    exact ⟨rfl, fun _ => ⟨rfl, rfl⟩, fun yes => absurd yes queued⟩

/-- R37, R188: what a LINK reset leaves of a link controller whose line is busy, a frame that runs on and the DRAW queued
at the entry included (log 12). -/
structure LinkIsReset (l m : Link) : Prop where
  frame : m = { l with
    queue := m.queue, onLine := m.onLine, attempt := 1, window := 8, wait := none, counters := Counters.zero
    clash := false }
  released : l.onLine = none → m.onLine = none ∧ m.queue = [.announce .draw false]
  headGone : ∀ o, l.onLine = some o → o.holdsHead = false →
    m.onLine = some { o with preReset := false } ∧ m.queue = [.announce .draw false]
  other : ∀ o f q, l.onLine = some o → l.queue = f :: q → o.holdsHead = true → QFrame.isAnnounce .draw f = false →
    m.onLine = some { o with preReset := true } ∧ m.queue = [QFrame.unmarked f, .announce .draw false]
  sending : ∀ o f q, l.onLine = some o → l.queue = f :: q → o.holdsHead = true → QFrame.isAnnounce .draw f = true →
    o.phase = .sending → m.onLine = some { o with preReset := true } ∧ m.queue = [.announce .draw true]
  jamming : ∀ o f q, l.onLine = some o → l.queue = f :: q → o.holdsHead = true → QFrame.isAnnounce .draw f = true →
    o.phase = .jamming → m.onLine = some { o with preReset := false } ∧ m.queue = [.announce .draw false]

/-- R37: of the queue only the head that is on the line stays. -/
theorem resetLinkControl_link : (resetLinkControl s).link = { s.link with
    queue := if s.link.headOnLine then (s.link.queue.take 1).map QFrame.unmarked else []
    onLine := s.link.onLine.map (fun o => { o with preReset := o.holdsHead })
    attempt := 1, window := 8, wait := none, counters := Counters.zero, clash := false } := rfl

theorem linkIsReset (cannot : CannotContend t) (link : t.link = (resetLinkControl s).link) :
    LinkIsReset s.link (enqueueAnnounce .draw t).link := by
  rw [resetLinkControl_link] at link
  have short : t.link.queue.length < queueLimit := by
    rw [link]
    dsimp only
    split
    · have := List.length_take_le 1 s.link.queue
      rw [List.length_map]
      exact Nat.lt_of_le_of_lt this (by decide)
    · decide
  obtain ⟨frame, joins, renews⟩ := enqueueDraw_link cannot short (by rw [link]) (by rw [link])
  have emptied (gone : s.link.headOnLine = false) : (enqueueAnnounce .draw t).link.queue = [.announce .draw false] ∧
      (enqueueAnnounce .draw t).link.onLine = s.link.onLine.map (fun o => { o with preReset := o.holdsHead }) := by
    have none : t.link.queue = [] := by rw [link]; exact if_neg (by simp [gone])
    obtain ⟨queue, onLine⟩ := joins (by rw [none]; rfl)
    exact ⟨by rw [queue, none]; rfl, by rw [onLine, link]⟩
  have kept {o : OnLine} {f : QFrame} {q : List QFrame} (ho : s.link.onLine = some o) (hq : s.link.queue = f :: q)
      (holds : o.holdsHead = true) : t.link.queue = [f.unmarked] ∧ t.link.onLine = some { o with preReset := true } := by
    have head : s.link.headOnLine = true := by rw [Link.headOnLine, ho]; exact holds
    rw [link]
    dsimp only
    rw [if_pos head, hq, ho]
    exact ⟨rfl, by rw [Option.map_some, holds]⟩
  have renewed {o : OnLine} {f : QFrame} {q : List QFrame} (ho : s.link.onLine = some o) (hq : s.link.queue = f :: q)
      (holds : o.holdsHead = true) (draw : QFrame.isAnnounce .draw f = true) :=
    have here := kept ho hq holds
    (renewQueued_spec (s := t) (k := .draw)).2.1 _ f.unmarked [] here.2 holds here.1
      ((isAnnounce_unmarked .draw f).trans draw)
  have is_renewed {o : OnLine} {f : QFrame} {q : List QFrame} (ho : s.link.onLine = some o) (hq : s.link.queue = f :: q)
      (holds : o.holdsHead = true) (draw : QFrame.isAnnounce .draw f = true) :
      enqueueAnnounce .draw t = renewQueued .draw t :=
    renews (by rw [(kept ho hq holds).1]; simp [isAnnounce_unmarked, draw])
  refine ⟨?_, fun ho => ?_, fun o ho gone => ?_, fun o f q ho hq holds notDraw => ?_,
    fun o f q ho hq holds draw phase => ?_, fun o f q ho hq holds draw phase => ?_⟩
  · rw [frame, link]
  · obtain ⟨queue, onLine⟩ := emptied (by rw [Link.headOnLine, ho])
    exact ⟨by rw [onLine, ho]; rfl, queue⟩
  · obtain ⟨queue, onLine⟩ := emptied (by rw [Link.headOnLine, ho]; exact gone)
    exact ⟨by rw [onLine, ho, Option.map_some, gone], queue⟩
  · obtain ⟨queue, onLine⟩ := kept ho hq holds
    obtain ⟨queue', onLine'⟩ := joins (by rw [queue]; simp [isAnnounce_unmarked, notDraw])
    exact ⟨onLine'.trans onLine, by rw [queue', queue]; rfl⟩
  · obtain ⟨queue, onLine⟩ := (renewed ho hq holds draw).1 phase
    rw [is_renewed ho hq holds draw]
    exact ⟨onLine, queue⟩
  · obtain ⟨queue, onLine⟩ := (renewed ho hq holds draw).2 phase
    have marked : f.unmarked = .announce .draw false := by
      cases f with
      | reply r => exact nomatch draw
      | announce k b =>
        rw [QFrame.isAnnounce, beq_iff_eq] at draw
        rw [QFrame.unmarked, draw]
    rw [is_renewed ho hq holds draw]
    exact ⟨onLine, by rw [queue, (kept ho hq holds).1, marked]⟩

/-! ### The whole reset -/

/-- R192, R37, R138: after a page reset the link controller, the rail share and the last announced demand cleared. -/
def linkCleared (p : State) : State :=
  (((resetLinkControl p).withRail { p.rail with view := [], applied := 0, rise := none }).withBank
    { p.bank with lastAnnounced := 0 }).withTouch { p.touch with rotation := 0 }

theorem changes_linkCleared (p : State) : Changes [.link, .rail, .bank, .touch] p (linkCleared p) :=
  (((changes_withLink p _).comp (changes_withRail _ _) (ds := [.link, .rail, .bank, .touch])).comp
    (changes_withBank _ _) (ds := [.link, .rail, .bank, .touch])).comp (changes_withTouch _ _)

theorem linkCleared_blocks (p : State) : (linkCleared p).link = (resetLinkControl p).link ∧
    (linkCleared p).rail = { p.rail with view := [], applied := 0, rise := none } ∧
    (linkCleared p).bank = { p.bank with lastAnnounced := 0 } ∧
    (linkCleared p).touch = { p.touch with rotation := 0 } := ⟨rfl, rfl, rfl, rfl⟩

/-- R165: the emptied view changes no pattern of a page that is reset. -/
theorem linkReset_eq (reset : PageIsReset s (pageReset s)) : linkReset s = enterListening (linkCleared (pageReset s)) := by
  let r := resetLinkControl (pageReset s)
  let v := r.withRail { r.rail with view := [] }
  have unturned : v.page.turned = 0 := (congrArg Page.turned reset.page).trans rfl
  have right : PatternRight v := by
    have pattern : v.pattern = .blank := reset.pattern
    rw [PatternRight, pattern, patternOf_unturned unturned]
  have same : recomputePattern v = v := recomputePattern_of_right right
  have share : resetRailShare r = v.withRail { v.rail with applied := 0, rise := none } := by
    have def_eq : resetRailShare r =
        (recomputePattern v).withRail { (recomputePattern v).rail with applied := 0, rise := none } := rfl
    rw [def_eq, same]
  have def_eq : linkReset s = enterListening (((resetRailShare r).withBank
    { (resetRailShare r).bank with lastAnnounced := 0 }).withTouch { (resetRailShare r).touch with rotation := 0 }) := rfl
  rw [def_eq, share]
  rfl

/-- R188, R92: a tile whose page reset has found no row to strike finds none at the entry into LISTENING either. -/
theorem PageIsReset.pipe_kept {p y : State} (reset : PageIsReset s p) (entered : EnteredListening c y t)
    (pipe : y.pipe = p.pipe) (plan : y.plan = p.plan) (lines : y.touch.lines = p.touch.lines)
    (idleEmpty : s.pipe.engine = .idle → slotsEmpty s = true) : t.pipe = p.pipe := by
  rw [← pipe]
  by_cases idle : y.pipe.engine = .idle
  · have pipeline := reset.pipeline
    unfold PipelineAfterTurn at pipeline
    rw [pipe] at idle
    cases hs : s.pipe.engine with
    | running =>
      simp only [hs] at pipeline
      rw [pipeline] at idle
      exact nomatch idle
    | fenced =>
      simp only [hs] at pipeline
      rw [pipeline, hs] at idle
      exact nomatch idle
    | idle =>
      simp only [hs] at pipeline
      obtain ⟨same, noRow⟩ | ⟨r, j, started, -⟩ := pipeline
      · obtain ⟨still, -⟩ | ⟨r, j, -, job, opened, -⟩ := entered.looked (by rw [pipe, idle])
          (by rw [slotsEmpty, pipe, same]; exact idleEmpty hs)
        · exact still
        · have planned : (jobAt p r).isSome = true := by
            rw [← jobAt_congr (entered.changes.plan.trans plan), job]
            rfl
          have closed := noRow r planned
          have sameLines : t.touch.lines = p.touch.lines := by rw [entered.touch, lines]
          exact absurd ((lineClosed_congr sameLines _).symm.trans opened) (by simp [closed])
      · rw [started] at idle
        exact nomatch idle
  · exact entered.pipe idle

end LinkReset

/-- R190: a RESET of scope LINK for this station or for all. -/
theorem deliver_resetLink {s : State} {sender target : Byte} (mine : station s = some target ∨ target = 255) :
    deliver sender (.reset target 1) s = linkReset s :=
  (if_pos mine).trans (if_neg (by decide))

/-- R92: a look for a row, by the engine's blocks alone. -/
theorem PipelineAfterTurn.congr {s t u : State} (h : PipelineAfterTurn s t) (pipe : u.pipe = t.pipe)
    (plan : u.plan = t.plan) (lines : u.touch.lines = t.touch.lines) : PipelineAfterTurn s u := by
  unfold PipelineAfterTurn at *
  cases hs : s.pipe.engine with
  | running => simp only [hs] at *; rw [pipe, h]
  | fenced => simp only [hs] at *; rw [pipe, h]
  | idle =>
    simp only [hs] at *
    exact h.congr rfl pipe plan lines

/-- Settles O12: the page reset (`pageIsReset_pageReset`), the link controller's reset with the DRAW queued at the entry
(`linkIsReset`) and the entry into LISTENING (`enteredListening`). -/
theorem resetLinkStartsListeningAfresh : Obligations.ResetLinkStartsListeningAfresh := by
  unfold Obligations.ResetLinkStartsListeningAfresh
  intro sender target s c hears mine range hc start slots
  obtain ⟨running, on, -, -⟩ := id hears
  have ok : bodyOk (.reset target 1) = true := by simpa [bodyOk] using range
  have reset := pageIsReset_pageReset (s := lineBusy s) start slots.1 on
  have exec_eq : exec (.resetLink sender target) s = .next (enterListening (linkCleared (pageReset (lineBusy s)))) := by
    rw [exec_delivered (c := .resetLink sender target) rfl hears ok, deliver_resetLink (s := lineBusy s) mine,
      linkReset_eq reset]
  generalize pageReset (lineBusy s) = p at *
  have cleared := changes_linkCleared p
  obtain ⟨link, rail, bank, touch⟩ := linkCleared_blocks p
  generalize linkCleared p = y at *
  have busy : p.link = busyLink s := reset.changes.link
  have pBank : p.bank = s.bank := reset.changes.bank
  have cannot : CannotContend y := .inr (by rw [link, resetLinkControl_link, busy]; rfl)
  have entered := enteredListening (c := c) (s := y) (by rw [cleared.start, reset.changes.start]; exact hc) cannot
    (by rw [rail]) (by rw [rail])
  have queued : Queued .draw (enqueueAnnounce .draw y) := queued_enqueueAnnounce y .draw
  have pipe := reset.pipe_kept entered cleared.pipe cleared.plan (by rw [touch]) slots.1
  have afresh := linkIsReset cannot link
  rw [busy, ← entered.link] at afresh
  generalize enterListening y = t at *
  have lineUp : y.link.lineUp = s.link.lineUp := by rw [link, resetLinkControl_link, busy]; rfl
  have plan : t.plan = p.plan := entered.changes.plan.trans cleared.plan
  have page : t.page = p.page := entered.changes.page.trans cleared.page
  have tTouch : t.touch = { p.touch with driftTimer := none, rotation := 0 } := by rw [entered.touch, touch]
  have shown : t.shown = p.shown := entered.changes.shown.trans cleared.shown
  have pattern : t.pattern = p.pattern := entered.changes.pattern.trans cleared.pattern
  have start' : t.start = { s.start with life := .listening, joinTimer := some 0 } := by
    rw [entered.start, cleared.start, reset.changes.start]
    rfl
  have frame := afresh.frame
  refine ⟨t, exec_eq, ?_, start', page.trans reset.page, ?_, ?_, pattern.trans reset.pattern, ?_, ?_, ?_, ?_,
    entered.applied, entered.refresh, ?_, ?_, entered.noRise, ?_, ?_, ?_, ?_, ?_, ?_, ?_, ?_, afresh.released,
    afresh.headGone, fun o f q ho hq => ⟨afresh.other o f q ho hq, afresh.sending o f q ho hq, afresh.jamming o f q ho hq⟩⟩
  · have all : Changes ([.start, .link, .page, .plan, .pipe, .bank, .rail, .touch, .pattern] ++ [.draws]) s t :=
      (((changes_lineBusy s).comp reset.changes
        (ds := [.start, .link, .page, .plan, .pipe, .bank, .rail, .touch, .pattern] ++ [.draws])).comp cleared
        (ds := [.start, .link, .page, .plan, .pipe, .bank, .rail, .touch, .pattern] ++ [.draws])).comp entered.changes
    have draws : t.draws = s.draws := by
      rw [entered.draws, cleared.draws, reset.changes.draws]
      rfl
    intro b hb
    by_cases isDraws : b = .draws
    · rw [isDraws]
      exact draws
    · exact all b fun mem => (List.mem_append.mp mem).elim hb fun here => isDraws (List.mem_singleton.mp here)
  · exact reset.jobs.congr (by rw [start', reset.changes.start]; rfl) (by rw [page]) shown pattern plan
  · rw [plan]
    exact reset.faults
  · exact reset.pipeline.congr pipe plan (by rw [tTouch])
  · rw [tTouch, reset.touch]
    rfl
  · rw [entered.bank, bank, pBank]
  · rw [entered.view, rail]
  · rw [entered.computed, bank, pBank, rail, lineUp]
  · intro r hr
    obtain ⟨phase, target, awaited⟩ := entered.held r hr
    exact ⟨phase, target, by rw [awaited, bank, pBank]⟩
  · rw [frame]
    rfl
  · rw [frame]
  · rw [frame]
  · rw [frame]
  · rw [frame]
  · rw [frame]
    rfl
  · rw [frame]
    rfl
  · unfold Queued at *
    rw [entered.link]
    exact queued

end Sys2Proof.Machine
end

section
/-!
The FAILED flags cleared (R147): the pattern worked out, and the lines that close handed on, one after the other.
-/

namespace Sys2Proof.Machine

section Clearing
variable {s t u m f p q : State}

/-! ### The hold timer over several events -/

/-- R149: the hold timer stays among RUNNING and PAUSED, or as it is: what any number of judgements leave. -/
def SamePhaseKind (s t : State) : Prop :=
  if s.touch.holdPhase = .running ∨ s.touch.holdPhase = .paused then
    t.touch.holdPhase = .running ∨ t.touch.holdPhase = .paused
  else t.touch.holdPhase = s.touch.holdPhase

theorem SamePhaseKind.of_eq (h : t.touch.holdPhase = s.touch.holdPhase) : SamePhaseKind s t := by
  unfold SamePhaseKind
  split
  · rwa [h]
  · exact h

theorem HoldJudged.samePhaseKind (h : HoldJudged s t) : SamePhaseKind s t := by
  rw [holdJudged_iff] at h
  unfold SamePhaseKind
  split
  · rename_i live
    rw [h, if_pos live]
    cases holdCondition t
    · exact .inr rfl
    · exact .inl rfl
  · rename_i still
    rw [h, if_neg still]

theorem SamePhaseKind.trans (h : SamePhaseKind s u) (g : SamePhaseKind u t) : SamePhaseKind s t := by
  unfold SamePhaseKind at *
  split at h
  · rename_i live
    rw [if_pos h] at g
    rwa [if_pos live]
  · rename_i still
    rw [h, if_neg still] at g
    rw [if_neg still]
    exact g

theorem SamePhaseKind.judged (h : SamePhaseKind s u) (g : HoldJudged u t) : HoldJudged s t := by
  rw [holdJudged_iff] at *
  unfold SamePhaseKind at h
  split at h
  · rename_i live
    rw [g, if_pos h, if_pos live]
  · rename_i still
    rw [g, h, if_neg still]

/-! ### Refreshing twice -/

/-- R73: a refresh of a row whose job has just been worked out changes nothing. -/
theorem refreshedJob_again {r : Nat} (h : jobAt t r = refreshedJob s t r) : refreshedJob t t r = jobAt t r := by
  by_cases empty : (diff t r).isEmpty = true
  · rw [h, refreshedJob_eq_none_iff.mpr empty, refreshedJob_eq_none_iff.mpr empty]
  · have job : refreshedJob s t r = some { moves := diff t r, attempt := _, level := _ } := if_neg empty
    rw [job] at h
    have within : (diff t r).within (diff t r) = true := by
      simp [Moves.within, pinSubset]
    rw [h]
    refine (if_neg empty).trans ?_
    rw [h]
    dsimp only
    rw [if_pos within]

theorem refreshedJob_fresh {r : Nat} (h : jobAt t r = freshJob t r) : refreshedJob t t r = jobAt t r := by
  have fresh : freshJob t r = refreshedJob (emptyPlan t) t r := (refreshedJob_of_no_job (jobAt_emptyPlan r)).symm
  exact refreshedJob_again (h.trans fresh)

/-! ### The pattern worked out -/

/-- R161, R162: what the pattern worked out leaves of a plan. -/
structure Repatterned (f p : State) : Prop where
  changes : Changes workBlocks f p
  kept : WorkKept f p
  right : PatternRight p
  pipe : (p.pipe = f.pipe ∧ p.touch = f.touch) ∨
    (patternOf f ≠ f.pattern ∧ statusRows f ≠ [] ∧ HandedOn f p ∧ ∀ r ∈ statusRows f, refreshedJob p p r = jobAt p r)
  others : ∀ r, r ∉ statusRows f → jobAt p r = jobAt f r
  outcome : (p.page = f.page ∧ p.link = f.link ∧ ∀ r, jobAt p r = jobAt f r ∨ jobAt p r = refreshedJob f p r) ∨
    (Settles (patternOf f) f p ∧ f.pipe.engine = .idle ∧ ∀ r, jobAt p r = none ∨ jobAt p r = freshJob p r)

/-- R56: a settle that a new pattern brings finds no job outside the status rows. -/
theorem no_other_job_of_settles (start : StartOk f) (idleEmpty : f.pipe.engine = .idle → slotsEmpty f = true)
    (refreshes : ¬ (patternOf f = f.pattern ∨ statusRows f = [])) {n : Pattern} (settles : Settles n f (recomputePattern f))
    {r : Nat} (other : r ∉ statusRows f) : jobAt f r = none := by
  let w := refreshRows (statusRows f) (setPattern f)
  have refreshed := changes_refreshRows (statusRows f) (setPattern f)
  have noticed : Noticed w (planNotices w) := noticed_planNotices
    (fun r hr => statusRows_lt start r (by rwa [statusRows_congr (t := w) refreshed.start] at hr))
    (fun idle => by
      rw [refreshed.pipe] at idle
      rw [slotsEmpty, refreshed.pipe]
      exact idleEmpty idle)
  have eq : recomputePattern f = planNotices w := recomputePatternWith_refreshes planNotices refreshes
  rw [eq] at settles
  obtain ⟨k, -, working, page, -, -⟩ := settles
  obtain ⟨⟨same, -, -, -⟩, -, -⟩ | ⟨-, -, noJob, -, -⟩ := noticed.outcome
  · have unsettled : (planNotices w).page = f.page := same.trans refreshed.page
    rw [unsettled] at page
    exact absurd (working.symm.trans (congrArg Page.state page)) (by exact nofun)
  · rw [← noJob r]
    exact (jobAt_refreshRows_other (setPattern f) (statusRows f) r other (statusRows_lt start)).symm

theorem repatterned_recomputePattern (start : StartOk f) (idleEmpty : f.pipe.engine = .idle → slotsEmpty f = true) :
    Repatterned f (recomputePattern f) := by
  have worked := patternWorkedOut_recomputePattern (statusRows_lt start) idleEmpty
  have noOther (h : ¬ (patternOf f = f.pattern ∨ statusRows f = [])) {n : Pattern}
      (settles : Settles n f (recomputePattern f)) {r : Nat} (other : r ∉ statusRows f) : jobAt f r = none :=
    no_other_job_of_settles start idleEmpty h settles other
  have c := changes_recomputePattern f
  have kept := workKept_recomputePattern f
  generalize recomputePattern f = p at *
  obtain ⟨right, -, rest⟩ := worked
  split at rest
  · obtain ⟨page, plan, pipe, touch, link, draws⟩ := rest
    exact ⟨c, kept, right, .inl ⟨pipe, touch⟩, fun r _ => jobAt_congr plan r,
      .inl ⟨page, link, fun r => .inl (jobAt_congr plan r)⟩⟩
  · rename_i refreshes
    obtain ⟨changed, rows⟩ := not_or.mp refreshes
    obtain ⟨handed, ⟨⟨page, link, -, -⟩, jobs⟩ | ⟨settles, idle, -, jobs⟩⟩ := rest
    · refine ⟨c, kept, right, .inr ⟨changed, rows, handed, fun r hr => refreshedJob_again (s := f) ?_⟩, fun r hr => ?_,
        .inl ⟨page, link, fun r => ?_⟩⟩
      · rw [jobs, if_pos hr]
      · rw [jobs, if_neg hr]
      · rw [jobs]
        split
        · exact .inr rfl
        · exact .inl rfl
    · refine ⟨c, kept, right, .inr ⟨changed, rows, handed, fun r hr => refreshedJob_fresh ?_⟩, fun r hr => ?_,
        .inr ⟨settles, idle, fun r => ?_⟩⟩
      · rw [jobs, if_pos hr]
      · rw [jobs, if_neg hr, noOther refreshes settles hr]
      · rw [jobs]
        split
        · exact .inr rfl
        · exact .inl rfl

/-! ### The lines that close -/

/-- R145, R100: what the closings of some lines hand on. -/
structure LinesClosed (L : List Nat) (p q : State) : Prop where
  changes : Changes [.pipe, .touch] p q
  touch : q.touch = { p.touch with holdPhase := q.touch.holdPhase }
  phase : SamePhaseKind p q
  pipe : q.pipe = { p.pipe with
    load := p.pipe.load.filter (fun x => x.fired || decide (x.row / 4 ∉ L))
    strike := p.pipe.strike.filter (fun x => x.fired || decide (x.row / 4 ∉ L)) }

theorem linesClosed (L : List Nat) (p : State) : LinesClosed L p (L.foldl (fun t l => lineCloses l t) p) := by
  induction L generalizing p with
  | nil =>
    have all (slot : Option Slot) : slot.filter (fun x => x.fired || decide (x.row / 4 ∉ ([] : List Nat))) = slot := by
      cases slot <;> simp
    exact ⟨.refl _ _, rfl, .of_eq rfl, by rw [all, all]; rfl⟩
  | cons l L ih =>
    obtain ⟨pipe, touch, judged⟩ := lineCloses_spec (s := p) l
    have c := changes_lineCloses l p
    have rest := ih (lineCloses l p)
    rw [List.foldl_cons]
    generalize L.foldl (fun t l => lineCloses l t) (lineCloses l p) = q at *
    have both (slot : Option Slot) : (slot.filter (fun x => x.fired || x.row / 4 != l)).filter
        (fun x => x.fired || decide (x.row / 4 ∉ L)) = slot.filter (fun x => x.fired || decide (x.row / 4 ∉ l :: L)) := by
      cases slot with
      | none => rfl
      | some x => cases hf : x.fired <;> by_cases hl : x.row / 4 = l <;> simp [Option.filter, hf, hl]
    refine ⟨c.trans rest.changes, ?_, judged.samePhaseKind.trans rest.phase, ?_⟩
    · rw [rest.touch, touch]
    · rw [rest.pipe, pipe]
      dsimp only
      rw [both, both]

end Clearing

end Sys2Proof.Machine
end

section
/-!
CLEAR_FAULTS (R177, R83, R147): the FAILED flags cleared, every row refreshed and the notices given (O31).
-/

namespace Sys2Proof.Machine

section ClearFaults
variable {s t u m p q w : State}

/-- R100: the rows that stay in a slot when some lines close. -/
def keepOpen (t : State) (slot : Option Slot) : Option Slot := slot.filter (fun x => x.fired || !lineClosed t (x.row / 4))

theorem keepOpen_congr (h : ∀ l, lineClosed t l = lineClosed s l) (slot : Option Slot) : keepOpen t slot = keepOpen s slot := by
  unfold keepOpen
  simp only [h]

/-- R147, R162: an IDLE engine started by the pattern that the cleared flags changed, on the lowest row that the refresh
of the status rows found or that had a job before it. -/
def StartedByPattern (m q : State) : Prop :=
  ∃ x, q.pipe = { m.pipe with engine := .running, stepTimer := some 0, load := some x } ∧ x.fired = false ∧
    lineClosed q (x.row / 4) = false ∧ statusRows m ≠ [] ∧ q.pattern ≠ m.pattern ∧
    (∀ r ∈ statusRows m, refreshedJob q q r = jobAt q r) ∧
    (let found (r : Nat) : Option Job := if r ∈ statusRows m then jobAt q r else jobAt m r
     (found x.row).map (snapshot x.row) = some x ∧
      ∀ r < x.row, (found r).isSome = true → lineClosed q (r / 4) = true)

/-- R55, R57: a WORKING page settled as DONE. -/
def donePage (p : Page) : Page :=
  { p with state := .settled, outcome := .done, detail := 0, record := ⟨p.turned, .done, 0⟩ }

/-- R147: the tile with its FAILED flags cleared, the lines that close by it handed on. -/
structure StripsCleared (m q : State) : Prop where
  changes : Changes workBlocks m q
  faults : q.plan.faults = m.plan.faults
  draws : m.link.quiet = false → q.draws = m.draws
  notQuiet : m.link.quiet = false → q.link.quiet = false
  touch : q.touch = { m.touch with
    lines := m.touch.lines.map LineGuard.clearFailed, holdPhase := q.touch.holdPhase
    driftTimer := if q.pipe.engine = m.pipe.engine then m.touch.driftTimer else none }
  phase : SamePhaseKind m q
  right : PatternRight q
  same : m.touch.lines.any (·.failed) = false → q = m
  pipe : if m.pipe.engine = .idle then
      q.pipe = m.pipe ∨ (m.touch.lines.any (·.failed) = true ∧ StartedByPattern m q)
    else q.pipe = { m.pipe with load := keepOpen q m.pipe.load, strike := keepOpen q m.pipe.strike }
  outcome : (q.page = m.page ∧ q.link = m.link ∧ ∀ r, jobAt q r = jobAt m r ∨ jobAt q r = refreshedJob m q r) ∨
    (m.page.state = .working ∧ m.pipe.engine = .idle ∧ q.page = donePage m.page ∧
      q.link = (enqueueAnnounce .settled m).link ∧ ∀ r, jobAt q r = none ∨ jobAt q r = freshJob q r)

/-! ### No flag set -/

theorem keepOpen_of_open {slot : Option Slot} (h : openIfUnfired s slot) : keepOpen s slot = slot := by
  cases slot with
  | none => rfl
  | some x =>
    cases fired : x.fired with
    | true => simp [keepOpen, Option.filter, fired]
    | false => simp [keepOpen, Option.filter, fired, h x rfl fired]

theorem stripsCleared_of_none (slots : SlotsOk m) (right : PatternRight m)
    (none : m.touch.lines.any (·.failed) = false) : StripsCleared m m := by
  obtain ⟨-, -, -, -, -, -, -, load, strike, -⟩ := slots
  have lines : m.touch.lines.map LineGuard.clearFailed = m.touch.lines := by
    refine (List.map_congr_left fun g hg => ?_).trans (List.map_id _)
    have clear : g.failed = false := by simpa using List.any_eq_false.mp none g hg
    exact if_neg (by simp [clear])
  refine ⟨.refl _ _, rfl, fun _ => rfl, id, ?_, .of_eq rfl, right, fun _ => rfl, ?_, .inl ⟨rfl, rfl, fun _ => .inl rfl⟩⟩
  · rw [lines, if_pos rfl]
  · split
    · exact .inl rfl
    · rw [keepOpen_of_open load, keepOpen_of_open strike]

/-! ### A flag set -/

/-- R147: a line closed after the flags are cleared was closed before, or is one of those that close. -/
theorem lineClosed_flagsCleared_iff (l : Nat) :
    lineClosed (flagsCleared m) l = true ↔ lineClosed m l = true ∨ l ∈ reclosedLines m := by
  rw [lineClosed_flagsCleared, Bool.or_eq_true]
  refine or_congr_right ⟨reclosed_mem, fun mem => ?_⟩
  exact (List.mem_filter.mp mem).2

theorem flagsCleared_none_failed : (flagsCleared m).touch.lines.any (·.failed) = false := by
  refine List.any_eq_false.mpr fun g hg => ?_
  obtain ⟨g', -, rfl⟩ := List.mem_map.mp hg
  unfold LineGuard.clearFailed
  split
  · exact Bool.false_ne_true
  · assumption

/-- R161, R160: with a FAILED flag set the overlay was shown; where the flags' clearing changes the pattern it shows none
after it, whatever a settle as DONE then makes of the page. -/
theorem pattern_changed (right : PatternRight m) (changed : patternOf (flagsCleared m) ≠ m.pattern)
    (q : State) (turned : q.page.turned = m.page.turned) (view : q.rail.view = m.rail.view)
    (lines : q.touch.lines = (flagsCleared m).touch.lines) (lineUp : q.link.lineUp = m.link.lineUp)
    (outcome : q.page.outcome = m.page.outcome ∨ q.page.outcome = .done) : patternOf q ≠ m.pattern := by
  have pattern : m.pattern = patternOf m := right
  have noFailed := flagsCleared_none_failed (m := m)
  have ready : pageReady (flagsCleared m) = pageReady m := rfl
  -- the overlay goes with the flags
  have overlay : m.page.turned ≠ 0 ∧ attention m = true ∧ attention (flagsCleared m) = false := by
    rw [pattern] at changed
    have clears : attention (flagsCleared m) = (m.page.outcome == .doneFaults ||
        m.rail.view.any (fun e => e.outcome == .doneFaults) || false || !m.link.lineUp) := by
      rw [attention, noFailed]
      rfl
    have implies : attention (flagsCleared m) = true → attention m = true := by
      rw [clears, attention]
      simp only [Bool.or_false, Bool.or_eq_true]
      tauto
    have turnedPage : m.page.turned ≠ 0 := fun zero => changed (by
      rw [patternOf_unturned zero, patternOf_unturned (s := flagsCleared m) zero])
    have differs : attention (flagsCleared m) ≠ attention m := fun same => changed (by
      rw [patternOf, patternOf, ready, same]
      rfl)
    refine ⟨turnedPage, ?_⟩
    cases hm : attention m <;> cases hf : attention (flagsCleared m) <;> simp_all
  obtain ⟨turned', shown, gone⟩ := overlay
  have still : attention q = false := by
    rw [attention, noFailed] at gone
    rw [attention, view, lines, noFailed, lineUp]
    simp only [Bool.or_eq_false_iff] at gone ⊢
    obtain ⟨⟨⟨own, peers⟩, -⟩, line⟩ := gone
    refine ⟨⟨⟨?_, peers⟩, trivial⟩, line⟩
    obtain same | done := outcome
    · rw [same]
      exact own
    · rw [done]
      rfl
  rw [pattern, patternOf, patternOf, turned, if_neg turned', if_neg turned', shown, still]
  split <;> split <;> exact nofun

/-- R100, R147: the rows withdrawn by the closings are the unfired ones of the lines that are closed after them. -/
theorem withdrawn_eq_keepOpen {slot : Option Slot} (h : openIfUnfired m slot)
    (lines : q.touch.lines = (flagsCleared m).touch.lines) :
    slot.filter (fun x => x.fired || decide (x.row / 4 ∉ reclosedLines m)) = keepOpen q slot := by
  unfold keepOpen
  cases slot with
  | none => rfl
  | some x =>
    cases fired : x.fired with
    | true => simp [Option.filter, fired]
    | false =>
      have opened := h x rfl fired
      have closed : lineClosed q (x.row / 4) = true ↔ x.row / 4 ∈ reclosedLines m := by
        rw [lineClosed_congr lines, lineClosed_flagsCleared_iff, opened]
        simp
      simp only [Option.filter, fired, Bool.false_or, ← closed]
      cases lineClosed q (x.row / 4) <;> rfl

/-! ### The settle as DONE -/

/-- R57: without STUCK pins a page settles as DONE. -/
theorem stuckOffCount_of_ok (ok : ∀ x ∈ s.plan.faults, x = .ok) : stuckOffCount s = 0 := by
  have noFault (r p : Nat) : faultAt s r p = .ok := by
    rw [faultAt, List.getD_eq_getElem?_getD]
    cases hx : s.plan.faults[r * colCount s + p]? with
    | none => rfl
    | some x => exact ok x (List.mem_of_getElem? hx)
  have noPins (n r : Nat) : pinSet n (fun p => (faultAt s r p).isStuck) = 0#20 := by
    have unstuck : (fun p => (faultAt s r p).isStuck) = fun _ => false := funext fun p => by
      rw [noFault]
      rfl
    rw [unstuck]
    induction n with
    | zero => rfl
    | succ n ih => simp [pinSet, ih]
  have row (r : Nat) : pinCount (stuckOffTarget s r) = 0 := by
    rw [stuckOffTarget, stuckPins, noPins, BitVec.zero_and]
    rfl
  simp only [stuckOffCount, row]
  simp

theorem Settles.done {n : Pattern} (h : Settles n s t) (ok : ∀ x ∈ t.plan.faults, x = .ok) :
    s.page.state = .working ∧ t.page = donePage s.page ∧ t.link = (enqueueAnnounce .settled s).link := by
  obtain ⟨k, count, working, page, link, -⟩ := h
  have zero : k = 0 := count.trans (stuckOffCount_of_ok ok)
  subst zero
  exact ⟨working, page, link⟩

/-! ### Flags cleared -/

/-- R92: the engine that the pattern's work has started is left alone by the closings: its row stands on an open line. -/
theorem startedByPattern (right : PatternRight m) (ok : ∀ x ∈ m.plan.faults, x = .ok)
    (rep : Repatterned (flagsCleared m) p) (closed : LinesClosed (reclosedLines m) p q)
    (changed : patternOf (flagsCleared m) ≠ m.pattern) (rows : statusRows m ≠ [])
    (again : ∀ r ∈ statusRows m, refreshedJob p p r = jobAt p r) (noStrike : m.pipe.strike = none)
    (lines : q.touch.lines = (flagsCleared m).touch.lines) {r : Nat} {j : Job}
    (started : p.pipe = { m.pipe with engine := .running, stepTimer := some 0, load := some (snapshot r j) })
    (job : jobAt p r = some j) (opened : lineClosed p (r / 4) = false)
    (lowest : ∀ r' < r, (jobAt p r').isSome = true → lineClosed p (r' / 4) = true) : StartedByPattern m q := by
  have c := closed.changes
  have sameLines (l : Nat) : lineClosed q l = lineClosed p l := lineClosed_congr (by rw [closed.touch]) l
  have jobs (r : Nat) : jobAt q r = jobAt p r := jobAt_congr c.plan r
  have diffs (r : Nat) : diff q r = diff p r :=
    diff_congr c.start (congrArg Page.target c.page) c.shown c.pattern (by rw [c.plan]) r
  have found (x : Nat) : (if x ∈ statusRows m then jobAt q x else jobAt m x) = jobAt p x := by
    split
    · exact jobs x
    · rename_i other
      exact (rep.others x other).symm
  have free : r / 4 ∉ reclosedLines m := fun mem => by
    have shut := (lineClosed_flagsCleared_iff (m := m) (r / 4)).mpr (.inr mem)
    rw [← lineClosed_congr lines, sameLines, opened] at shut
    exact Bool.false_ne_true shut
  have pipe : q.pipe = p.pipe := by
    rw [closed.pipe, started]
    simp [Option.filter, snapshot, free, noStrike]
  have right' : PatternRight q := rep.right.of_plant c (hf := by rw [closed.touch])
  have page : q.page.turned = m.page.turned ∧ (q.page.outcome = m.page.outcome ∨ q.page.outcome = .done) := by
    rw [c.page]
    obtain ⟨same, -⟩ | ⟨settles, -⟩ := rep.outcome
    · rw [same]
      exact ⟨rfl, .inl rfl⟩
    · obtain ⟨-, done, -⟩ := settles.done (by rw [rep.kept.faults]; exact ok)
      rw [done]
      exact ⟨rfl, .inr rfl⟩
  have lineUp : q.link.lineUp = m.link.lineUp := (congrArg Link.lineUp c.link).trans rep.kept.kept.1
  refine ⟨snapshot r j, pipe.trans started, rfl, (sameLines _).trans opened, rows, ?_, fun x hx => ?_, ?_,
    fun x hx hjob => ?_⟩
  · rw [show q.pattern = patternOf q from right']
    exact pattern_changed right changed q page.1 (congrArg RailShare.view (c.rail.trans rep.changes.rail)) lines lineUp
      page.2
  · rw [jobs, ← again x hx]
    exact refreshedJob_congr (jobs x) (diffs x) fun m => baseLevel_congr c.start (by rw [c.plan]) x m
  · have here := found r
    rw [job] at here
    exact congrArg (Option.map (snapshot r)) here
  · rw [sameLines]
    exact lowest x hx (by rw [← found x]; exact hjob)

/-- What the pattern's work and the closings make of the row pipeline. -/
theorem pipe_clearStrips (slots : SlotsOk m) (right : PatternRight m) (on : onTheLink m = true)
    (ok : ∀ x ∈ m.plan.faults, x = .ok) (failed : m.touch.lines.any (·.failed) = true)
    (rep : Repatterned (flagsCleared m) p) (closed : LinesClosed (reclosedLines m) p q) :
    if m.pipe.engine = .idle then
      q.pipe = m.pipe ∨ (m.touch.lines.any (·.failed) = true ∧ StartedByPattern m q)
    else q.pipe = { m.pipe with load := keepOpen q m.pipe.load, strike := keepOpen q m.pipe.strike } := by
  obtain ⟨idleEmpty, -, -, -, -, -, -, load, strike, -⟩ := slots
  have lines : q.touch.lines = (flagsCleared m).touch.lines := by rw [closed.touch]; exact rep.kept.lines
  have unmoved (same : p.pipe = m.pipe) : q.pipe = { m.pipe with
      load := keepOpen q m.pipe.load, strike := keepOpen q m.pipe.strike } := by
    rw [closed.pipe, same, withdrawn_eq_keepOpen load lines, withdrawn_eq_keepOpen strike lines]
  split
  · rename_i idle
    obtain ⟨noLoad, noStrike, -, -⟩ := slotsEmpty_iff.mp (idleEmpty idle)
    have stays (same : p.pipe = m.pipe) : q.pipe = m.pipe := by
      rw [closed.pipe, same, noLoad, noStrike]
      cases hp : m.pipe
      simp_all
    obtain ⟨same, -⟩ | ⟨changed, rows, ⟨looked, -, -⟩, again⟩ := rep.pipe
    · exact .inl (stays same)
    · rw [if_pos ⟨idle, on⟩] at looked
      obtain ⟨same, -⟩ | ⟨r, j, started, job, opened, lowest⟩ := looked
      · exact .inl (stays same)
      · exact .inr ⟨failed, startedByPattern right ok rep closed changed rows again noStrike lines started job opened lowest⟩
  · rename_i busy
    refine unmoved ?_
    obtain ⟨same, -⟩ | ⟨-, -, handed, -⟩ := rep.pipe
    · exact same
    · exact handed.pipe_of_busy busy

theorem stripsCleared_clearStrips (start : StartOk m) (slots : SlotsOk m) (right : PatternRight m)
    (on : onTheLink m = true) (ok : ∀ x ∈ m.plan.faults, x = .ok) : StripsCleared m (clearStrips m) := by
  by_cases failed : m.touch.lines.any (·.failed) = true
  · have rep : Repatterned (flagsCleared m) (recomputePattern (flagsCleared m)) :=
      repatterned_recomputePattern start slots.1
    have closed := linesClosed (reclosedLines m) (recomputePattern (flagsCleared m))
    have eq : clearStrips m = (reclosedLines m).foldl (fun t l => lineCloses l t) (recomputePattern (flagsCleared m)) :=
      if_pos failed
    rw [eq]
    generalize recomputePattern (flagsCleared m) = p at *
    generalize (reclosedLines m).foldl (fun t l => lineCloses l t) p = q at *
    have lines : q.touch.lines = p.touch.lines := by rw [closed.touch]
    have engine : q.pipe.engine = p.pipe.engine := by rw [closed.pipe]
    have faults : p.plan.faults = m.plan.faults := rep.kept.faults
    have c := closed.changes
    have jobs (r : Nat) : jobAt q r = jobAt p r := jobAt_congr c.plan r
    refine ⟨?_, ?_, ?_, ?_, ?_, ?_, rep.right.of_plant closed.changes (hf := lines),
      fun none => absurd (failed.symm.trans none) (by decide), pipe_clearStrips slots right on ok failed rep closed, ?_⟩
    · exact ((changes_withTouch m _).comp rep.changes (ds := workBlocks)).comp closed.changes
    · rw [closed.changes.plan, faults]
    · exact fun busy => closed.changes.draws.trans (rep.kept.draws busy)
    · exact fun busy => (congrArg Link.quiet closed.changes.link).trans (rep.kept.kept.2.1.trans busy)
    · rw [closed.touch, engine]
      obtain ⟨pipe, touch⟩ | ⟨-, -, ⟨-, -, touch⟩, -⟩ := rep.pipe
      · have same : p.pipe.engine = m.pipe.engine := congrArg Pipeline.engine pipe
        rw [if_pos same, touch]
        rfl
      · rw [touch]
        rfl
    · refine SamePhaseKind.trans (u := p) ?_ closed.phase
      obtain ⟨-, touch⟩ | ⟨-, -, ⟨-, judged, -⟩, -⟩ := rep.pipe
      · exact .of_eq (by rw [touch]; rfl)
      · exact (judged.samePhaseKind : SamePhaseKind (flagsCleared m) p)
    · obtain ⟨page, link, kept⟩ | ⟨settles, idle, fresh⟩ := rep.outcome
      · refine .inl ⟨closed.changes.page.trans page, closed.changes.link.trans link, fun r => ?_⟩
        have diffs : diff q r = diff p r := diff_congr c.start (congrArg Page.target c.page) c.shown c.pattern (by rw [c.plan]) r
        have levels (x : Moves) : baseLevel q r x = baseLevel p r x := baseLevel_congr c.start (by rw [c.plan]) r x
        rw [jobs, refreshedJob_congr (s := flagsCleared m) (s' := m) rfl diffs levels]
        exact kept r
      · obtain ⟨working, page, link⟩ := settles.done (by rw [faults]; exact ok)
        refine .inr ⟨working, idle, closed.changes.page.trans page, ?_, fun r => ?_⟩
        · exact closed.changes.link.trans (link.trans (enqueueAnnounce_link_congr _ rfl rfl rfl))
        · rw [jobs, freshJob_congr (diff_congr c.start (congrArg Page.target c.page) c.shown c.pattern (by rw [c.plan]) r)
            c.start (by rw [c.plan])]
          exact fresh r
  · have none : m.touch.lines.any (·.failed) = false := by simpa using failed
    have eq : clearStrips m = m := if_neg failed
    rw [eq]
    exact stripsCleared_of_none slots right none

end ClearFaults

end Sys2Proof.Machine
end

section
/-!
CLEAR_FAULTS as a whole (R177): every row refreshed against the cleared map, the notices, and the reply (O31).
-/

namespace Sys2Proof.Machine

section ClearFaults
variable {s t u m p q w : State}

/-- R177, R56: what the refresh of every row and the notices leave of page, link controller and plan. -/
def ClearedOutcome (m t : State) : Prop :=
  (t.page = m.page ∧ t.link = m.link ∧ (m.page.state = .working → t.pipe.engine = .idle → planEmpty t = false) ∧
      ∀ r < rowCount m, jobAt t r = refreshedJob m t r) ∨
    (m.page.state = .working ∧ m.pipe.engine = .idle ∧ t.page = donePage m.page ∧
      t.link = (enqueueAnnounce .settled m).link ∧ ∀ r < rowCount m, jobAt t r = freshJob t r)

/-- R91, R100: an engine that the cleared flags leave IDLE was IDLE, and its pipeline is as it was. -/
theorem StripsCleared.pipe_of_idle (h : StripsCleared m q) (idle : q.pipe.engine = .idle) : q.pipe = m.pipe := by
  have pipe := h.pipe
  split at pipe
  · obtain same | ⟨-, x, started, -⟩ := pipe
    · exact same
    · rw [started] at idle
      exact nomatch idle
  · rename_i busy
    rw [pipe] at idle
    exact absurd idle busy

/-- R73, R74: every row refreshed. -/
structure RowsRefreshed (q w : State) : Prop where
  changes : Changes [.plan] q w
  faults : w.plan.faults = q.plan.faults
  jobs : ∀ r < rowCount q, jobAt w r = refreshedJob q w r

theorem rowsRefreshed (rows : rowCount q ≤ 24) : RowsRefreshed q (refreshRows (allRows q) q) := by
  have c := changes_refreshRows (allRows q) q
  have faults := refreshRows_faults q (allRows q)
  refine ⟨c, faults, fun r hr => ?_⟩
  have job := jobAt_refreshed (rows := allRows q) (t := refreshRows (allRows q) q) List.nodup_range
    (fun r hr => Nat.lt_of_lt_of_le (List.mem_range.mp hr) rows) c.start (by rw [c.page]) c.shown c.pattern faults r
  exact job.trans (if_pos (List.mem_range.mpr hr))

theorem RowsRefreshed.diff (h : RowsRefreshed q w) (r : Nat) : diff w r = diff q r :=
  diff_congr h.changes.start (by rw [h.changes.page]) h.changes.shown h.changes.pattern h.faults r

theorem RowsRefreshed.baseLevel (h : RowsRefreshed q w) (r : Nat) (x : Moves) : baseLevel w r x = baseLevel q r x :=
  baseLevel_congr h.changes.start h.faults r x

/-- R74: a row that has just been refreshed or rebuilt keeps its job. -/
theorem RowsRefreshed.kept (h : RowsRefreshed q w) {r : Nat} (hr : r < rowCount q)
    (again : refreshedJob q q r = jobAt q r) : jobAt w r = jobAt q r := by
  rw [h.jobs r hr, ← again]
  exact refreshedJob_congr rfl (h.diff r) (h.baseLevel r)

/-- The jobs after the second refresh, seen from the tile before the flags were cleared. -/
theorem RowsRefreshed.jobs_from (h : RowsRefreshed q w) {r : Nat} (hr : r < rowCount q)
    (old : jobAt q r = jobAt m r ∨ jobAt q r = refreshedJob m q r) : jobAt w r = refreshedJob m w r := by
  obtain same | refreshed := old
  · rw [h.jobs r hr]
    exact refreshedJob_congr same rfl fun _ => rfl
  · rw [h.kept hr (refreshedJob_again refreshed), refreshed]
    exact (refreshedJob_congr rfl (h.diff r) (h.baseLevel r)).symm

theorem RowsRefreshed.jobs_fresh (h : RowsRefreshed q w) {r : Nat} (hr : r < rowCount q)
    (old : jobAt q r = none ∨ jobAt q r = freshJob q r) : jobAt w r = freshJob w r := by
  obtain none | fresh := old
  · rw [h.jobs r hr, refreshedJob_of_no_job none]
  · rw [h.kept hr (refreshedJob_fresh fresh), fresh]
    exact (freshJob_congr (h.diff r) h.changes.start h.faults).symm

theorem clearedOutcome (start : StartOk m) (quiet : m.link.quiet = false)
    (ok : ∀ x ∈ m.plan.faults, x = .ok) (strips : StripsCleared m q)
    (refreshed : RowsRefreshed q w) (noticed : Noticed w t) (c : Changes workBlocks w t) : ClearedOutcome m t := by
  have qStart : q.start = m.start := strips.changes.start
  have wStart : w.start = m.start := refreshed.changes.start.trans qStart
  have rows : rowCount q = rowCount m := rowCount_congr qStart
  have faults : t.plan.faults = m.plan.faults := noticed.faults.trans (refreshed.faults.trans strips.faults)
  have wPage : w.page = q.page := refreshed.changes.page
  have wLink : w.link = q.link := refreshed.changes.link
  have wPipe : w.pipe = q.pipe := refreshed.changes.pipe
  obtain ⟨⟨page, link, -, still⟩, pattern, plan⟩ | ⟨settles, idle, noJob, -, jobs⟩ := noticed.outcome
  · have diffs (r : Nat) : diff t r = diff w r :=
      diff_congr c.start (by rw [page]) c.shown pattern noticed.faults r
    have levels (r : Nat) (x : Moves) : baseLevel t r x = baseLevel w r x := baseLevel_congr c.start noticed.faults r x
    obtain ⟨qPage, qLink, old⟩ | ⟨working, idle, qPage, qLink, old⟩ := strips.outcome
    · refine .inl ⟨page.trans (wPage.trans qPage), link.trans (wLink.trans qLink), ?_, fun r hr => ?_⟩
      · rw [← qPage, ← wPage]
        exact still
      · rw [jobAt_congr plan, refreshed.jobs_from (by rwa [rows]) (old r)]
        exact (refreshedJob_congr rfl (diffs r) (levels r)).symm
    · refine .inr ⟨working, idle, page.trans (wPage.trans qPage), link.trans (wLink.trans qLink), fun r hr => ?_⟩
      rw [jobAt_congr plan, refreshed.jobs_fresh (by rwa [rows]) (old r)]
      exact (freshJob_congr (diffs r) c.start noticed.faults).symm
  · obtain ⟨working, page, link⟩ := settles.done (by rw [faults]; exact ok)
    obtain ⟨qPage, qLink, old⟩ | ⟨-, -, qPage, -, -⟩ := strips.outcome
    · have qIdle : q.pipe.engine = .idle := by rw [← wPipe]; exact idle
      refine .inr ⟨by rw [← qPage, ← wPage]; exact working, by rw [← strips.pipe_of_idle qIdle]; exact qIdle, ?_, ?_,
        fun r hr => ?_⟩
      · rw [page, wPage, qPage]
      · exact link.trans (enqueueAnnounce_link_congr _ wStart (wLink.trans qLink)
          (refreshed.changes.draws.trans (strips.draws quiet)))
      · have noDiff : (Machine.diff w r).isEmpty = true := by
          have job := refreshed.jobs r (by rwa [rows])
          rw [noJob r] at job
          exact refreshedJob_eq_none_iff.mp job.symm
        exact job_of_settle (start.congr wStart) c noticed.faults (by rw [page]; rfl) (jobs r) noDiff
    · rw [wPage, qPage] at working
      exact nomatch working

/-- R92, R100, R147: the row pipeline after CLEAR_FAULTS. -/
theorem pipe_cleared (on : onTheLink m = true) (strips : StripsCleared m q) (refreshed : RowsRefreshed q w)
    (rows : ∀ r ∈ statusRows m, r < rowCount q) (noticed : Noticed w t) (lines : t.touch.lines = q.touch.lines) :
    if m.pipe.engine = .idle then
      (t.pipe = m.pipe ∧ NoRowEligible t) ∨
        (∃ x, t.pipe = { m.pipe with engine := .running, stepTimer := some 0, load := some x } ∧ x.fired = false ∧
          lineClosed t (x.row / 4) = false ∧
          (EngineStarted m t ∨
            (m.touch.lines.any (·.failed) = true ∧ statusRows m ≠ [] ∧ t.pattern ≠ m.pattern ∧
              (let found (r : Nat) : Option Job := if r ∈ statusRows m then jobAt t r else jobAt m r
               (found x.row).map (snapshot x.row) = some x ∧
                ∀ r < x.row, (found r).isSome = true → lineClosed t (r / 4) = true))))
    else t.pipe = { m.pipe with load := keepOpen t m.pipe.load, strike := keepOpen t m.pipe.strike } := by
  have wPipe : w.pipe = q.pipe := refreshed.changes.pipe
  have sameLines (l : Nat) : lineClosed t l = lineClosed q l := lineClosed_congr lines l
  have onW : onTheLink w = true := by rw [onTheLink_congr (refreshed.changes.start.trans strips.changes.start), on]
  have pipe := strips.pipe
  split at pipe
  · rename_i idle
    rw [if_pos idle]
    obtain same | ⟨failed, x, started, unfired, opened, status, pattern, again, found, lowest⟩ := pipe
    · obtain ⟨looked, -, -⟩ := noticed.handedOn
      rw [if_pos ⟨by rw [wPipe, same, idle], onW⟩] at looked
      have looked : LookedForRow m t := looked.congr (by rw [wPipe, same]) rfl rfl rfl
      obtain still | ⟨r, j, started, job, opened, lowest⟩ := looked
      · exact .inl still
      · exact .inr ⟨snapshot r j, started, rfl, opened, .inl ⟨r, j, started, job, opened, lowest⟩⟩
    · have busy : w.pipe.engine ≠ .idle := by
        rw [wPipe, started]
        exact nofun
      have same : t.pipe = q.pipe := (noticed.handedOn.pipe_of_busy busy).trans wPipe
      obtain ⟨-, tPattern, plan⟩ | ⟨-, idle', -⟩ := noticed.outcome
      · have jobs (r : Nat) : (if r ∈ statusRows m then jobAt t r else jobAt m r) =
            if r ∈ statusRows m then jobAt q r else jobAt m r := by
          split
          · rename_i hr
            rw [jobAt_congr plan, refreshed.kept (rows r hr) (again r hr)]
          · rfl
        refine .inr ⟨x, same.trans started, unfired, (sameLines _).trans opened, .inr ⟨failed, status, ?_, ?_,
          fun r hr hjob => ?_⟩⟩
        · rw [tPattern, refreshed.changes.pattern]
          exact pattern
        · exact (congrArg (Option.map (snapshot x.row)) (jobs x.row)).trans found
        · rw [sameLines]
          exact lowest r hr ((congrArg Option.isSome (jobs r)).symm.trans hjob)
      · exact absurd idle' busy
  · rename_i busy
    rw [if_neg busy]
    have busyW : w.pipe.engine ≠ .idle := by
      rw [wPipe, pipe]
      exact busy
    rw [noticed.handedOn.pipe_of_busy busyW, wPipe, pipe, keepOpen_congr sameLines, keepOpen_congr sameLines]

/-- R105, R149: the touch guard after CLEAR_FAULTS. -/
theorem touch_cleared (strips : StripsCleared m q) (wPipe : w.pipe = q.pipe) (wTouch : w.touch = q.touch)
    (handed : HandedOn w t) : t.touch = { m.touch with
      lines := m.touch.lines.map LineGuard.clearFailed, holdPhase := t.touch.holdPhase
      driftTimer := if t.pipe.engine = m.pipe.engine then m.touch.driftTimer else none } := by
  have drift : (if t.pipe.engine = w.pipe.engine then w.touch.driftTimer else none) =
      if t.pipe.engine = m.pipe.engine then m.touch.driftTimer else none := by
    have qTouch := strips.touch
    by_cases same : t.pipe.engine = w.pipe.engine
    · rw [if_pos same, wTouch, qTouch, same, wPipe]
    · have idle : w.pipe.engine = .idle := by_contra fun busy => same (by rw [handed.pipe_of_busy busy])
      have qIdle : q.pipe.engine = .idle := by rw [← wPipe]; exact idle
      rw [if_neg same, if_neg]
      rwa [← strips.pipe_of_idle qIdle, ← wPipe]
  obtain ⟨-, -, touch⟩ := handed
  rw [touch]
  dsimp only
  rw [drift, wTouch, strips.touch]

/-- R177: the tile after the action of CLEAR_FAULTS, `m` being the tile with its fault map cleared. -/
structure FaultsCleared (m t : State) : Prop where
  changes : Changes workBlocks m t
  draws : t.draws = m.draws
  notQuiet : t.link.quiet = false
  faults : t.plan.faults = m.plan.faults
  outcome : ClearedOutcome m t
  touch : t.touch = { m.touch with
    lines := m.touch.lines.map LineGuard.clearFailed, holdPhase := t.touch.holdPhase
    driftTimer := if t.pipe.engine = m.pipe.engine then m.touch.driftTimer else none }
  judged : HoldJudged m t
  right : PatternRight t
  patternKept : m.touch.lines.any (·.failed) = false → t.page = m.page → t.pattern = m.pattern
  pipe : if m.pipe.engine = .idle then
      (t.pipe = m.pipe ∧ NoRowEligible t) ∨
        (∃ x, t.pipe = { m.pipe with engine := .running, stepTimer := some 0, load := some x } ∧ x.fired = false ∧
          lineClosed t (x.row / 4) = false ∧
          (EngineStarted m t ∨
            (m.touch.lines.any (·.failed) = true ∧ statusRows m ≠ [] ∧ t.pattern ≠ m.pattern ∧
              (let found (r : Nat) : Option Job := if r ∈ statusRows m then jobAt t r else jobAt m r
               (found x.row).map (snapshot x.row) = some x ∧
                ∀ r < x.row, (found r).isSome = true → lineClosed t (r / 4) = true))))
    else t.pipe = { m.pipe with load := keepOpen t m.pipe.load, strike := keepOpen t m.pipe.strike }

theorem faultsCleared (start : StartOk m) (slots : SlotsOk m) (right : PatternRight m) (on : onTheLink m = true)
    (quiet : m.link.quiet = false) (ok : ∀ x ∈ m.plan.faults, x = .ok) :
    FaultsCleared m (planNotices (refreshRows (allRows (clearStrips m)) (clearStrips m))) := by
  have strips := stripsCleared_clearStrips start slots right on ok
  generalize clearStrips m = q at *
  have count : rowCount q = rowCount m := rowCount_congr strips.changes.start
  have refreshed := rowsRefreshed (q := q) (by rw [count]; exact start.rows_le)
  have right' : PatternRight (refreshRows (allRows q) q) := refreshRows_right _ strips.right
  generalize refreshRows (allRows q) q = w at *
  have wPipe : w.pipe = q.pipe := refreshed.changes.pipe
  have wStart : w.start = m.start := refreshed.changes.start.trans strips.changes.start
  have noticed : Noticed w (planNotices w) := noticed_planNotices
    (fun r hr => statusRows_lt start r (by rwa [statusRows_congr wStart] at hr)) fun idle => by
      have qIdle : q.pipe.engine = .idle := by rw [← wPipe]; exact idle
      rw [slotsEmpty, wPipe, strips.pipe_of_idle qIdle]
      exact slots.1 (by rw [← strips.pipe_of_idle qIdle]; exact qIdle)
  have c := changes_planNotices w
  have kept := workKept_planNotices w
  have final := (atRest_planNotices right').pattern
  generalize planNotices w = t at *
  have wBusy : w.link.quiet = false := by rw [refreshed.changes.link]; exact strips.notQuiet quiet
  have lines : t.touch.lines = q.touch.lines := by rw [kept.lines, refreshed.changes.touch]
  have phase : SamePhaseKind m w := strips.phase.trans (.of_eq (by rw [refreshed.changes.touch]))
  refine ⟨(strips.changes.comp refreshed.changes (ds := workBlocks)).comp c, ?_, kept.kept.2.1.trans wBusy,
    noticed.faults.trans (refreshed.faults.trans strips.faults),
    clearedOutcome start quiet ok strips refreshed noticed c,
    touch_cleared strips wPipe refreshed.changes.touch noticed.handedOn, phase.judged noticed.handedOn.2.1, final,
    fun none samePage => ?_,
    pipe_cleared on strips refreshed (fun r hr => by rw [count]; exact start.statusRow_lt (.inl hr)) noticed lines⟩
  · rw [kept.draws wBusy, refreshed.changes.draws, strips.draws quiet]
  · have same := strips.same none
    obtain ⟨-, pattern, -⟩ | ⟨settles, -⟩ := noticed.outcome
    · rw [pattern, refreshed.changes.pattern, same]
    · obtain ⟨k, -, working, page, -, -⟩ := settles
      have back : t.page = w.page := by rw [samePage, refreshed.changes.page, same]
      rw [back] at page
      exact absurd (working.symm.trans (congrArg Page.state page)) (by exact nofun)

end ClearFaults

/-- R55: a page that settles is not the page that was WORKING. -/
theorem page_ne {p q : Page} (working : p.state = .working) (done : q = donePage p) : q ≠ p := by
  intro same
  rw [same] at done
  exact absurd (working.symm.trans (congrArg Page.state done)) (by exact nofun)

/-- R147. -/
theorem clearFailed_eq (g : LineGuard) : g.clearFailed =
    if g.failed then
      { g with failed := false, presence := if g.guard = .arriving ∨ g.guard = .touched then some 0 else none }
    else g := by
  unfold LineGuard.clearFailed LineGuard.present
  cases g.guard <;> rfl

/-- R177: the reply joins the queue behind a line that is not quiet. -/
theorem answerQuery_clearFaults {tag : Byte} {s : State} (notQuiet : (clearAllFaults s).link.quiet = false) :
    answerQuery tag 5 [] s = (clearAllFaults s).withLink
      (linkWithReply { tag := tag, outcome := 1, kind := 5, code := 0, data := [] } (clearAllFaults s).link) :=
  answerQuery_of_classify (q := .clearFaults) rfl notQuiet

/-- Settles O31: the fault map cleared, then the flags (`stripsCleared_clearStrips`), then every row refreshed with the
notices (`faultsCleared`), and the reply. -/
theorem clearFaultsStartsAfresh : Obligations.ClearFaultsStartsAfresh := by
  unfold Obligations.ClearFaultsStartsAfresh
  intro sender target tag s taken start slots ⟨right, _⟩
  obtain ⟨⟨running, on, -, -⟩, -, -⟩ := id taken
  let m := clearFaultMap (lineBusy s)
  have mFaults : m.plan.faults = List.replicate s.plan.faults.length .ok := List.map_const'
  have cleared := faultsCleared (m := m) start slots right on rfl (fun x hx => by
    rw [mFaults] at hx
    exact (List.mem_replicate.mp hx).2)
  have exec_eq := exec_query (c := .clearFaults sender target tag []) rfl taken (by decide)
  have eq : clearAllFaults (lineBusy s) = planNotices (refreshRows (allRows (clearStrips m)) (clearStrips m)) := rfl
  rw [answerQuery_clearFaults (by rw [eq]; exact cleared.notQuiet), eq] at exec_eq
  generalize planNotices (refreshRows (allRows (clearStrips m)) (clearStrips m)) = u at *
  have all : Changes workBlocks s u :=
    ((changes_lineBusy s).comp ((changes_clearFaultMap _).comp cleared.changes (ds := workBlocks)) (ds := workBlocks))
  refine ⟨_, exec_eq, all.comp (changes_withLink _ _), cleared.draws, cleared.faults.trans mFaults, fun r hr => ?_, ?_,
    cleared.judged, ?_, ?_, ?_⟩
  · obtain ⟨page, -, -, jobs⟩ | ⟨working, -, page, -, jobs⟩ := cleared.outcome
    · exact (jobs r hr).trans (if_pos page).symm
    · exact (jobs r hr).trans (if_neg (page_ne working page)).symm
  · rw [← funext clearFailed_eq]
    exact cleared.touch
  · have lineUp (reply : Reply) : patternOf (u.withLink (linkWithReply reply u.link)) = patternOf u :=
      patternOf_congr (t := u.withLink (linkWithReply reply u.link)) rfl rfl rfl rfl rfl rfl (linkWithReply_lineUp _ _)
    rw [lineUp]
    split
    · exact cleared.right
    · rename_i kept
      obtain ⟨noFlag, samePage⟩ := not_or.mp kept
      exact cleared.patternKept (Bool.eq_false_iff.mpr noFlag) (not_not.mp samePage)
  · exact cleared.pipe
  · obtain ⟨page, link, still, -⟩ | ⟨working, idle, page, link, -⟩ := cleared.outcome
    · exact .inl ⟨page, congrArg (linkWithReply _) link, still⟩
    · exact .inr ⟨working, idle, page,
        congrArg (linkWithReply _) (link.trans (enqueueAnnounce_link_congr _ rfl rfl rfl))⟩

end Sys2Proof.Machine
end
